-- ==== Sys2Proof/Word.lean ====
section
/-! DEFINITION. The word types of PLL-CRE: the 48-bit command word (30_encoding.md R73), the 64-bit response data (R74),
the 32-bit register word (10_state.md R35), the 16-bit sample and table word (00_scope.md R16). Bit 0 is the least
significant bit (R8). -/

namespace Sys2Proof

/-- One byte of a byte-wide transport (20_memory.md R51); the engine itself has no bytes. -/
abbrev Byte := BitVec 8

/-- A command word `{op[47:44], a[43:32], d[31:0]}` (30_encoding.md R73). -/
abbrev CmdWord := BitVec 48

/-- The data of a response (30_encoding.md R74). -/
abbrev RspData := BitVec 64

/-- A word of the register space (10_state.md R35), and a coefficient as it is stored (R24). -/
abbrev RegWord := BitVec 32

/-- A sample component or a table entry as it is stored: `SW = 16` bits (00_scope.md R16, 10_state.md R26). -/
abbrev Sample := BitVec 16

end Sys2Proof
end

