-- ==== Sys2Proof/Config.lean ====
section
/-! DEFINITION. What is fixed when the engine is built (00_scope.md R5, R6): the structural parameters of the reference
instantiation, the constants derived from them, the arctangent table (41_phase_detector.md R117) and the gain constant
(R118). The model is the reference instantiation (log 8). No command changes any of these. -/

namespace Sys2Proof.Config

/-- Sample bit width (R6, decision D8). -/
abbrev SW : Nat := 16
/-- Fractional bits of the sample format (R6, R16). -/
abbrev SF : Nat := 15
/-- log2 of the table size (R6). -/
abbrev LOGN : Nat := 11
/-- The table size `N = 2^LOGN` (R6). -/
abbrev N : Nat := 2048
/-- The rational detector's shift `k` (R6). -/
abbrev K : Nat := 13
/-- The detector's `quarter_turn`, `2^K`; it stands for π/4 (R6, R112, 90_conflicts.md C4). -/
abbrev QT : Int := 8192
/-- The raw-angle value of π, `2^(K+2)` (R6, R15). -/
abbrev RAW_PI : Int := 32768
/-- CORDIC iterations (R6). -/
abbrev ITERS : Nat := 6
/-- Phase fractional bits (R6, R15, decision D9). -/
abbrev PF : Nat := 28
/-- The phase value of π, `2^PF` (R6). -/
abbrev PHASE_PI : Int := 268435456
/-- The phase value of one cycle, `2^(PF+1)` (R6). -/
abbrev CYCLE : Int := 536870912
/-- Phase register width (R6). -/
abbrev PW : Nat := 32
/-- The signed error multiplier (R6, R123, decision D10). -/
abbrev ERR_SCALE : Int := 8192
/-- Width of the scaled error and of `X1`, `X2` (R6). -/
abbrev EW : Nat := 32
/-- Coefficient width that `INIT` checks (R6, R140, R176). -/
abbrev CW : Nat := 18
/-- Filter fractional-bit count (R6). -/
abbrev FF : Nat := 16
/-- Width the feed-forward sum saturates to (R6, R132). -/
abbrev AW : Nat := 48
/-- Width the correction is clamped to (R6, R136). -/
abbrev YW : Nat := 29
/-- `2^(YW-1) - 1` (R6, R136). -/
abbrev Y_MAX : Int := 268435455
/-- `-2^(YW-1)` (R6, R136). -/
abbrev Y_MIN : Int := -268435456
/-- log2 of `angle_per_step = CYCLE / N`: `PF + 1 - LOGN` (R6). -/
abbrev STEP_SHIFT : Nat := 18
/-- The most coefficients the store holds (10_state.md R24). -/
abbrev MAX_TAPS : Nat := 3

/-- The CORDIC arctangent table in raw-angle units (41_phase_detector.md R117). -/
abbrev ATAN : List Int := [8192, 4836, 2555, 1297, 651, 326]

/-- The CORDIC gain constant, 15 fractional bits (41_phase_detector.md R118). -/
abbrev CGAIN : Int := 19902

/-- Fractional bits of `CGAIN` (41_phase_detector.md R118). -/
abbrev CGAIN_FRAC : Nat := 15

/-- A set of parameter values, under the names of 00_scope.md R6. -/
structure Params where
  sw : Nat
  sf : Nat
  logn : Nat
  n : Nat
  k : Nat
  pf : Nat
  pw : Nat
  ew : Nat
  aw : Nat
  yw : Nat
  cw : Nat
  ff : Nat
  errScale : Int
  iters : Nat
  stepShift : Nat
  deriving DecidableEq, Repr

/-- The reference instantiation (00_scope.md R6). -/
def reference : Params where
  sw := SW
  sf := SF
  logn := LOGN
  n := N
  k := K
  pf := PF
  pw := PW
  ew := EW
  aw := AW
  yw := YW
  cw := CW
  ff := FF
  errScale := ERR_SCALE
  iters := ITERS
  stepShift := STEP_SHIFT

/-- When a set of parameter values is consistent (00_scope.md R7 (a) to (e); (f) is no requirement). -/
abbrev Params.Consistent (p : Params) : Prop :=
  (p.n = 2 ^ p.logn ∧ 2 ≤ p.logn) ∧
  (p.stepShift + p.logn = p.pf + 1 ∧ 1 ≤ p.stepShift) ∧
  p.yw ≤ p.pf + 1 ∧
  p.pf + 3 ≤ p.pw ∧
  (p.sw ≤ 16 ∧ p.ew ≤ 32 ∧ p.pw ≤ 32 ∧ p.yw ≤ 32 ∧ p.ff ≤ 31)

end Sys2Proof.Config
end

