-- ==== Sys2Proof/Machine/Arith.lean ====
section
/-! DEFINITION. The arithmetic primitives of 00_scope.md R9 to R13, on integers of unbounded range. A value is narrowed
only where a rule applies one of these (60_exceptions.md R207). -/

namespace Sys2Proof.Machine

/-- `2^n` as an integer. -/
def pow2 (n : Nat) : Int := ((2 ^ n : Nat) : Int)

/-- `clamp(v, lo, hi)` (R10). -/
def clamp (v lo hi : Int) : Int := if v < lo then lo else if v > hi then hi else v

/-- `sat_W(v)`: signed saturation to `W` bits (R10). -/
def sat (w : Nat) (v : Int) : Int := clamp v (-pow2 (w - 1)) (pow2 (w - 1) - 1)

/-- `asr(v, n) = floor(v / 2^n)`, rounding toward minus infinity (R11). -/
def asr (v : Int) (n : Nat) : Int := v / pow2 n

/-- `v << n = v * 2^n` for any sign of `v` (R11). -/
def shl (v : Int) (n : Nat) : Int := v * pow2 n

/-- `tdiv(a, b)` for `b > 0`: the quotient rounded toward zero (R12). -/
def tdiv (a b : Int) : Int := if 0 ≤ a then a / b else -((-a) / b)

/-- `abs(v)`, exact (R13). -/
def absInt (v : Int) : Int := if v < 0 then -v else v

end Sys2Proof.Machine
end

