-- ==== Sys2Proof/Syntax.lean ====
section
/-! DEFINITION. The eight commands of PLL-CRE (30_encoding.md R78), one constructor per row of the opcode table. Operands
are the integers the rules speak of (00_scope.md R9, 30_encoding.md R77, R80); which of them a command word can carry is
WellFormed.lean. -/

namespace Sys2Proof

/-- The phase detector that `INIT` selects (10_state.md R23; 30_encoding.md R80: `RATIONAL` 0, `CORDIC` 1). -/
inductive Detector where
  | rational
  | cordic
  deriving DecidableEq, Repr

/-- A command (30_encoding.md R78). -/
inductive Instr where
  /-- `NOP` (44_config_commands.md R170). -/
  | nop
  /-- `PROC i, q`: one sample (43_process.md R155). -/
  | proc (i q : Int)
  /-- `LDC v`: load the next coefficient (44_config_commands.md R171). -/
  | ldc (v : Int)
  /-- `LDT v`: load the next table entry (44_config_commands.md R172). -/
  | ldt (v : Int)
  /-- `RDREG r`: read the register at address `r` (44_config_commands.md R173). -/
  | rdreg (r : Nat)
  /-- `RDT k`: read table entry `k` (44_config_commands.md R174). -/
  | rdt (k : Nat)
  /-- `INIT det`: validate the configuration and start (44_config_commands.md R175). -/
  | init (det : Detector)
  /-- `RESET`: clear the loop state (44_config_commands.md R177). -/
  | reset
  deriving DecidableEq, Repr

/-- The mnemonic of a command, as the opcode table spells it (30_encoding.md R78). -/
inductive Mnemonic where
  | nop | proc | ldc | ldt | rdreg | rdt | init | reset
  deriving DecidableEq, Repr

/-- Which row of the opcode table a command belongs to. -/
def Instr.mnemonic : Instr → Mnemonic
  | .nop => .nop
  | .proc _ _ => .proc
  | .ldc _ => .ldc
  | .ldt _ => .ldt
  | .rdreg _ => .rdreg
  | .rdt _ => .rdt
  | .init _ => .init
  | .reset => .reset

end Sys2Proof
end

