-- ==== Sys2Proof/WellFormed.lean ====
section
/-! DEFINITION. Which commands a command word can carry: the operand ranges of 30_encoding.md R77 and R80. The encoder is
faithful on these, and the decoder produces nothing else. -/

namespace Sys2Proof

/-- `v` is a signed integer of 16 bits (00_scope.md R16; 30_encoding.md R80, `PROC` and `LDT`). -/
abbrev FitsSample (v : Int) : Prop := -32768 ≤ v ∧ v ≤ 32767

/-- `v` is a signed integer of 32 bits (30_encoding.md R80, `LDC`). -/
abbrev FitsWord (v : Int) : Prop := -2147483648 ≤ v ∧ v ≤ 2147483647

/-- A command whose operands are in the ranges of 30_encoding.md R80. -/
abbrev Instr.WellFormed : Instr → Prop
  | .nop => True
  | .proc i q => FitsSample i ∧ FitsSample q
  | .ldc v => FitsWord v
  | .ldt v => FitsSample v
  | .rdreg r => r < 4096
  | .rdt k => k < 2048
  | .init _ => True
  | .reset => True

/-- `WellFormed` as a check that runs. -/
def Instr.wellFormed (i : Instr) : Bool :=
  match i with
  | .nop => true
  | .proc i q => decide (FitsSample i) && decide (FitsSample q)
  | .ldc v => decide (FitsWord v)
  | .ldt v => decide (FitsSample v)
  | .rdreg r => decide (r < 4096)
  | .rdt k => decide (k < 2048)
  | .init _ => true
  | .reset => true

end Sys2Proof
end

