-- ==== Sys2Proof/Decode.lean ====
section
/-! DEFINITION. Decoding and encoding of command words (30_encoding.md R73, R76 to R79). Decoding is total: every one of
the 2^48 words is a command, an illegal command (`ILLEGAL_OP`, R191) or a malformed command (`ILLEGAL_FIELD`, R192). The
encoder is written from the same tables. A byte-wide transport of the words (20_memory.md R51) and the match-and-mask
form of the opcode map (R78) stand here too. -/

namespace Sys2Proof

/-- What one word decodes to (30_encoding.md R79). -/
inductive Decoded where
  /-- A well-formed instance of a command. -/
  | command (i : Instr)
  /-- `op >= 8` (60_exceptions.md R191). -/
  | illegalOp
  /-- A must-be-zero field of the format is not zero (60_exceptions.md R192). -/
  | illegalField
  deriving DecidableEq, Repr

/-- `op = cmd_word[47:44]` (R73). -/
def opField (w : CmdWord) : BitVec 4 := w.extractLsb' 44 4

/-- `a = cmd_word[43:32]` (R73). -/
def aField (w : CmdWord) : BitVec 12 := w.extractLsb' 32 12

/-- `d = cmd_word[31:0]` (R73). -/
def dField (w : CmdWord) : BitVec 32 := w.extractLsb' 0 32

/-- The word with the three fields given (R73). -/
def pack (op : BitVec 4) (a : BitVec 12) (d : BitVec 32) : CmdWord := op ++ a ++ d

/-- The detector that bit `d[0]` of `INIT` selects (R76, R77, R80). -/
def detectorOfBit (b : BitVec 1) : Detector := if b = 0#1 then .rational else .cordic

/-- The bit `d[0]` of `INIT` for a detector (R76, R80). -/
def Detector.bit : Detector → BitVec 1
  | .rational => 0#1
  | .cordic => 1#1

/-- Format Z (R76): `a` and `d` are zero. -/
def decodeZ (a : BitVec 12) (d : BitVec 32) (i : Instr) : Decoded :=
  if a ≠ 0#12 ∨ d ≠ 0#32 then .illegalField else .command i

/-- Format P (R76): `a` is zero, `d[31:16]` is `q`, `d[15:0]` is `i`, both signed (R77). -/
def decodeP (a : BitVec 12) (d : BitVec 32) : Decoded :=
  if a ≠ 0#12 then .illegalField
  else .command (.proc (d.extractLsb' 0 16).toInt (d.extractLsb' 16 16).toInt)

/-- Format V of `LDC` (R76): `a` is zero, `d` is the signed value (R77). -/
def decodeLdc (a : BitVec 12) (d : BitVec 32) : Decoded :=
  if a ≠ 0#12 then .illegalField else .command (.ldc d.toInt)

/-- Format V of `LDT` (R76): `a` and `d[31:16]` are zero, `d[15:0]` is the signed value (R77). -/
def decodeLdt (a : BitVec 12) (d : BitVec 32) : Decoded :=
  if a ≠ 0#12 ∨ d.extractLsb' 16 16 ≠ 0#16 then .illegalField
  else .command (.ldt (d.extractLsb' 0 16).toInt)

/-- Format A of `RDREG` (R76): `d` is zero, `a` is the unsigned address (R77). -/
def decodeRdreg (a : BitVec 12) (d : BitVec 32) : Decoded :=
  if d ≠ 0#32 then .illegalField else .command (.rdreg a.toNat)

/-- Format A of `RDT` (R76): `d` and `a[11]` are zero, `a[10:0]` is the unsigned index (R77). -/
def decodeRdt (a : BitVec 12) (d : BitVec 32) : Decoded :=
  if d ≠ 0#32 ∨ a.extractLsb' 11 1 ≠ 0#1 then .illegalField
  else .command (.rdt (a.extractLsb' 0 11).toNat)

/-- Format I (R76): `a` and `d[31:1]` are zero, `d[0]` is the detector (R77). -/
def decodeI (a : BitVec 12) (d : BitVec 32) : Decoded :=
  if a ≠ 0#12 ∨ d.extractLsb' 1 31 ≠ 0#31 then .illegalField
  else .command (.init (detectorOfBit (d.extractLsb' 0 1)))

/-- The decoder (R78, R79): the opcode selects the format; a reserved opcode is rejected before any field is looked at
(R191), then a non-zero must-be-zero field (R192). -/
def decode (w : CmdWord) : Decoded :=
  match (opField w).toNat with
  | 0 => decodeZ (aField w) (dField w) .nop
  | 1 => decodeP (aField w) (dField w)
  | 2 => decodeLdc (aField w) (dField w)
  | 3 => decodeLdt (aField w) (dField w)
  | 4 => decodeRdreg (aField w) (dField w)
  | 5 => decodeRdt (aField w) (dField w)
  | 6 => decodeI (aField w) (dField w)
  | 7 => decodeZ (aField w) (dField w) .reset
  | _ => .illegalOp

/-- The opcode of a mnemonic (R78). -/
def Mnemonic.opcode : Mnemonic → BitVec 4
  | .nop => 0#4
  | .proc => 1#4
  | .ldc => 2#4
  | .ldt => 3#4
  | .rdreg => 4#4
  | .rdt => 5#4
  | .init => 6#4
  | .reset => 7#4

/-- The word of a well-formed command (R73, R76, R78). -/
def encode : Instr → CmdWord
  | .nop => pack 0#4 0#12 0#32
  | .proc i q => pack 1#4 0#12 (BitVec.ofInt 16 q ++ BitVec.ofInt 16 i)
  | .ldc v => pack 2#4 0#12 (BitVec.ofInt 32 v)
  | .ldt v => pack 3#4 0#12 (0#16 ++ BitVec.ofInt 16 v)
  | .rdreg r => pack 4#4 (BitVec.ofNat 12 r) 0#32
  | .rdt k => pack 5#4 (0#1 ++ BitVec.ofNat 11 k) 0#32
  | .init det => pack 6#4 0#12 (0#31 ++ det.bit)
  | .reset => pack 7#4 0#12 0#32

/-- The match word of a command's row (R78). -/
def Mnemonic.matchWord : Mnemonic → CmdWord
  | .nop => 0x000000000000#48
  | .proc => 0x100000000000#48
  | .ldc => 0x200000000000#48
  | .ldt => 0x300000000000#48
  | .rdreg => 0x400000000000#48
  | .rdt => 0x500000000000#48
  | .init => 0x600000000000#48
  | .reset => 0x700000000000#48

/-- The mask of a command's row (R78): a word is a well-formed instance of the command when `w AND mask = match`. -/
def Mnemonic.maskWord : Mnemonic → CmdWord
  | .nop => 0xFFFFFFFFFFFF#48
  | .proc => 0xFFFF00000000#48
  | .ldc => 0xFFFF00000000#48
  | .ldt => 0xFFFFFFFF0000#48
  | .rdreg => 0xF000FFFFFFFF#48
  | .rdt => 0xF800FFFFFFFF#48
  | .init => 0xFFFFFFFFFFFE#48
  | .reset => 0xFFFFFFFFFFFF#48

/-- The command the decoder reads from the instruction whose bits are `w`. A command is one word of 48 bits that crosses
the interface as one unit (R51, R73), so no byte order enters. -/
def decodeTableWord (nbits w : Nat) : Option Instr :=
  match decode (BitVec.ofNat 48 (w % 2 ^ nbits)) with
  | .command i => some i
  | .illegalOp => none
  | .illegalField => none

/-- The six bytes of a command word on a byte-wide transport, the least significant first (20_memory.md R51, D29). -/
def wordToBytes (w : CmdWord) : List Byte :=
  [w.extractLsb' 0 8, w.extractLsb' 8 8, w.extractLsb' 16 8, w.extractLsb' 24 8, w.extractLsb' 32 8, w.extractLsb' 40 8]

/-- The command word that six bytes of a transport carry (R51). -/
def wordOfBytes (b0 b1 b2 b3 b4 b5 : Byte) : CmdWord := b5 ++ b4 ++ b3 ++ b2 ++ b1 ++ b0

/-- Decoding from a byte-wide transport: what the first word decodes to and the bytes after it, or nothing while fewer
than six bytes have come. Every command has the one length (R73). -/
def decodeBytes : List Byte → Option (Decoded × List Byte)
  | b0 :: b1 :: b2 :: b3 :: b4 :: b5 :: rest => some (decode (wordOfBytes b0 b1 b2 b3 b4 b5), rest)
  | _ => none

end Sys2Proof
end

