-- ==== Sys2Proof/Machine/State.lean ====
section
/-! DEFINITION. The state of one engine (10_state.md R20) and the host's side of its command port at the level of
transactions (30_encoding.md R72, 70_reset_and_hazards.md R211, R219); the state after hardware reset (R45, R210); the
reasons a step can stop. -/

namespace Sys2Proof.Machine

/-- The mode (10_state.md R21). The value 3 never occurs (93_implementation_defined.md V7), so it has no constructor. -/
inductive Mode where
  /-- Configuration is being loaded (0). -/
  | unconf
  /-- Samples are processed (1). -/
  | ready
  /-- An `INIT` found the configuration wrong (2). -/
  | failed
  deriving DecidableEq, Repr

/-- The cause of a failed `INIT` (10_state.md R22, 44_config_commands.md R176). Values 4 to 15 never occur (V7). -/
inductive CfgErr where
  /-- No failed `INIT` (0). -/
  | none
  /-- No coefficient was loaded (1, `NO_COEF`). -/
  | noCoef
  /-- A coefficient does not fit `CW` bits (2, `COEF_RANGE`). -/
  | coefRange
  /-- The table is not full (3, `TBL_SIZE`). -/
  | tblSize
  deriving DecidableEq, Repr

/-- The status of a response (30_encoding.md R75). Codes 7 to 15 are never produced (V6). -/
inductive Status where
  | ok
  /-- A reserved opcode (60_exceptions.md R191). -/
  | illegalOp
  /-- A must-be-zero field is not zero (R192). -/
  | illegalField
  /-- The command is not legal in the mode (R193). -/
  | illegalMode
  /-- A read of something that has no value (R194). -/
  | badAddr
  /-- A fourth coefficient or a 2049th table entry (R195). -/
  | overfill
  /-- The validation of `INIT` failed (R196). -/
  | cfgError
  deriving DecidableEq, Repr

/-- The engine's answer to one command (30_encoding.md R74). -/
structure Response where
  status : Status
  data : RspData
  deriving DecidableEq, Repr

/-- What the host can do to the engine, at the level of transactions (30_encoding.md R72, 70_reset_and_hazards.md R211). -/
inductive HostInput where
  /-- Send a command word and wait for its response (30_encoding.md R71). -/
  | command (w : CmdWord)
  /-- Assert `rst` between two commands (70_reset_and_hazards.md R210). -/
  | hardwareReset
  /-- Assert `rst` after the command word was accepted and before its response (R211). -/
  | abandoned (w : CmdWord)
  deriving DecidableEq, Repr

/-- The complete state of one engine (10_state.md R20). The two stores are lists that grow (20_memory.md R64):
`COEF_FILL` and `TBL_FILL` are their lengths, and an entry nothing has written does not exist (log 4). -/
structure Engine where
  /-- `MODE` (R21). -/
  mode : Mode
  /-- `CFGERR` (R22). -/
  cfgerr : CfgErr
  /-- `DET` (R23). -/
  det : Detector
  /-- `COEF[0 .. COEF_FILL - 1]`, signed 32-bit (R24). -/
  coef : List RegWord
  /-- `TBL[0 .. TBL_FILL - 1]`, signed 16-bit (R26). -/
  tbl : List Sample
  /-- `PHASE`, signed, phase units (R27). -/
  phase : BitVec 32
  /-- `X1`, the last scaled error, signed (R28). -/
  x1 : BitVec 32
  /-- `X2`, the scaled error before it, signed (R28). -/
  x2 : BitVec 32
  /-- `Y1`, the last correction, signed (R29). -/
  y1 : BitVec 29
  /-- `Y2`, the correction before it, signed (R29). -/
  y2 : BitVec 29
  /-- `QERR`, the quantization-error accumulator, unsigned (R30). -/
  qerr : BitVec 16
  /-- `MAG`, the CORDIC amplitude estimate, unsigned (R31). -/
  mag : BitVec 32
  deriving DecidableEq, Repr

/-- The engine right after hardware reset (10_state.md R45, 70_reset_and_hazards.md R210). -/
def Engine.reset : Engine where
  mode := .unconf
  cfgerr := .none
  det := .rational
  coef := []
  tbl := []
  phase := 0#32
  x1 := 0#32
  x2 := 0#32
  y1 := 0#29
  y2 := 0#29
  qerr := 0#16
  mag := 0#32

/-- The machine: the engine, and the host's side of the command port. `pending` and `responses` are the model's own (log
1, log 2), not state of the engine. -/
structure State where
  /-- The engine (R20). -/
  engine : Engine
  /-- The host's inputs still to come, in order (70_reset_and_hazards.md R211, R217, R219). -/
  pending : List HostInput
  /-- The responses produced so far, oldest first (R219). -/
  responses : List Response
  deriving DecidableEq, Repr

/-- The machine right after hardware reset, before the host has sent anything (R45, R210). -/
def State.reset : State where
  engine := Engine.reset
  pending := []
  responses := []

/-- The reasons the machine stops with a fault. The spec's own errors are statuses, after which the engine goes on
(60_exceptions.md R190 to R199); these two arise only in states that no run from reset reaches (log 5). -/
inductive Fault where
  /-- Raised by `PROC` when its lookup meets a table entry that no `LDT` wrote: such an entry has no value (20_memory.md
  R64). `INIT` makes it impossible (10_state.md R26). Safe: the model stops. -/
  | unwrittenTableEntry
  /-- Raised by `PROC` when the coefficient store does not hold one, two or three coefficients (10_state.md R24,
  20_memory.md R64). `INIT` and `OVERFILL` make it impossible (44_config_commands.md R171, R176). Safe: the model stops. -/
  | unwrittenCoefficient
  deriving DecidableEq, Repr

/-- The reasons an instruction is refused. -/
inductive Refusal where
  /-- Raised by `exec` for an instruction that has no meaning yet. Safe: nothing is claimed of it. No arm of this model
  raises it. -/
  | notModelled (mnemonic : String)
  deriving DecidableEq, Repr

end Sys2Proof.Machine
end

