-- ==== Sys2Proof/Machine/Ops.lean ====
section
/-! DEFINITION. The named operations over the engine's state: `CLEAR` (10_state.md R33), the two append-only stores
(R24, R26), the loop-state writes of `PROC` (42_loop_filter.md R137, 43_process.md R154, 41_phase_detector.md R120), the
mode changes of `INIT` (44_config_commands.md R175), hardware reset (70_reset_and_hazards.md R210), and `respond`
(00_scope.md R14). Taking an exception is, in this engine, `respond(status, 0)` with a non-zero status (R14): `raise`. It
saves nothing and there is nowhere to return to (60_exceptions.md R198). -/

namespace Sys2Proof.Machine

/-- `COEF_FILL` (10_state.md R24). -/
def Engine.coefFill (e : Engine) : Nat := e.coef.length

/-- `TBL_FILL` (10_state.md R26). -/
def Engine.tblFill (e : Engine) : Nat := e.tbl.length

/-- `COEF[j]` as the signed integer it holds; no value when `j >= COEF_FILL` (R24, R39). -/
def Engine.coefAt (e : Engine) (j : Nat) : Option Int := (e.coef[j]?).map BitVec.toInt

/-- `TBL[k]` as the signed integer it holds; no value when `k >= TBL_FILL` (R26, 20_memory.md R64). -/
def Engine.tblAt (e : Engine) (k : Nat) : Option Int := (e.tbl[k]?).map BitVec.toInt

/-- `COEF[COEF_FILL] <- v; COEF_FILL <- COEF_FILL + 1` (44_config_commands.md R171). -/
def Engine.pushCoef (e : Engine) (v : Int) : Engine := { e with coef := e.coef ++ [BitVec.ofInt 32 v] }

/-- `TBL[TBL_FILL] <- v; TBL_FILL <- TBL_FILL + 1` (44_config_commands.md R172). -/
def Engine.pushTbl (e : Engine) (v : Int) : Engine := { e with tbl := e.tbl ++ [BitVec.ofInt 16 v] }

/-- The two stores hold no more than the engine has room for (44_config_commands.md R176: "cannot occur"). A store is a
list that grows, so every length up to its size is a legal content and equal stores are equal lists (log 4). -/
abbrev Memory.wf (e : Engine) : Prop := e.coef.length ≤ Config.MAX_TAPS ∧ e.tbl.length ≤ Config.N

/-- `CLEAR`: the seven elements of the loop state become zero (10_state.md R33). -/
def Engine.clear (e : Engine) : Engine :=
  { e with phase := 0#32, x1 := 0#32, x2 := 0#32, y1 := 0#29, y2 := 0#29, qerr := 0#16, mag := 0#32 }

/-- The state change of an `INIT` that succeeds (44_config_commands.md R175). -/
def Engine.start (e : Engine) (det : Detector) : Engine := { e.clear with det := det, mode := .ready }

/-- The state change of an `INIT` that fails: `MODE` and `CFGERR` only (44_config_commands.md R175, 60_exceptions.md R196). -/
def Engine.fail (e : Engine) (cause : CfgErr) : Engine := { e with mode := .failed, cfgerr := cause }

/-- `MAG <- m` (41_phase_detector.md R120). -/
def Engine.setMag (e : Engine) (m : Int) : Engine := { e with mag := BitVec.ofInt 32 m }

/-- `QERR <- rem; X2 <- X1; X1 <- err; Y2 <- Y1; Y1 <- y0`, the right-hand sides read before any write
(42_loop_filter.md R134, R137). -/
def Engine.shiftFilter (e : Engine) (rem err y0 : Int) : Engine :=
  { e with
    qerr := BitVec.ofInt 16 rem
    x2 := e.x1
    x1 := BitVec.ofInt 32 err
    y2 := e.y1
    y1 := BitVec.ofInt 29 y0 }

/-- `PHASE <- p` (43_process.md R154). -/
def Engine.setPhase (e : Engine) (p : Int) : Engine := { e with phase := BitVec.ofInt 32 p }

/-- The machine with another engine state. -/
def State.withEngine (s : State) (e : Engine) : State := { s with engine := e }

/-- The machine with other inputs still to come. -/
def State.withPending (s : State) (l : List HostInput) : State := { s with pending := l }

/-- `respond(status, data)`: produce the one response of a command (00_scope.md R14, 30_encoding.md R74). -/
def State.respond (s : State) (status : Status) (data : RspData) : State :=
  { s with responses := s.responses ++ [⟨status, data⟩] }

/-- A command that completes: the engine takes the state `e` and answers `OK` with `data` (30_encoding.md R74). -/
def succeed (s : State) (e : Engine) (data : RspData) : Host.Outcome State Fault Refusal :=
  .next ((s.withEngine e).respond .ok data)

/-- Taking an exception: `respond(status, 0)` with a non-zero status and no state change (00_scope.md R14,
60_exceptions.md R198). -/
def raise (s : State) (status : Status) : Host.Outcome State Fault Refusal :=
  .next (s.respond status 0#64)

/-- The one exception that changes state: an `INIT` whose validation failed answers `CFG_ERROR` (60_exceptions.md R196). -/
def raiseCfgError (s : State) (cause : CfgErr) : Host.Outcome State Fault Refusal :=
  .next ((s.withEngine (s.engine.fail cause)).respond .cfgError 0#64)

/-- Hardware reset: the engine takes the reset state from whatever state it is in, and no response is produced
(70_reset_and_hazards.md R210, R211). -/
def State.hardwareReset (s : State) : State := s.withEngine Engine.reset

end Sys2Proof.Machine
end

