-- ==== Sys2Proof/Machine/Operands.lean ====
section
/-! DEFINITION. Operand forms. A command's own operands are plain integers after decoding (30_encoding.md R77); what is
left to say is how a response packs its values (R74) and how a reader recovers them, and the coefficient set a `PROC`
reads (10_state.md R24). -/

namespace Sys2Proof.Machine

/-- The data of an `OK` response of `PROC`: `{zext_32(e), zext_16(osc_q), zext_16(osc_i)}` (30_encoding.md R74). -/
def procData (err oq oi : Int) : RspData := BitVec.ofInt 32 err ++ BitVec.ofInt 16 oq ++ BitVec.ofInt 16 oi

/-- The data of an `OK` response of `RDREG` and `RDT`: `{0 (32 bits), zext_32(v)}` (30_encoding.md R74). -/
def readData (v : Int) : RspData := 0#32 ++ BitVec.ofInt 32 v

/-- `phase_error` of a `PROC` response, recovered with `sext_32` (30_encoding.md R74). -/
def RspData.phaseError (d : RspData) : Int := (d.extractLsb' 32 32).toInt

/-- `locked_q` of a `PROC` response, recovered with `sext_16` (30_encoding.md R74). -/
def RspData.lockedQ (d : RspData) : Int := (d.extractLsb' 16 16).toInt

/-- `locked_i` of a `PROC` response, recovered with `sext_16` (30_encoding.md R74). -/
def RspData.lockedI (d : RspData) : Int := (d.extractLsb' 0 16).toInt

/-- The signed value of a read response, recovered with `sext_32` (30_encoding.md R74). -/
def RspData.value (d : RspData) : Int := (d.extractLsb' 0 32).toInt

/-- The numerator coefficients that are loaded, by `TAPS` (10_state.md R24; 42_loop_filter.md R131). -/
inductive Taps where
  | one (b0 : Int)
  | two (b0 b1 : Int)
  | three (b0 b1 b2 : Int)
  deriving DecidableEq, Repr

/-- The coefficient set of a list of stored coefficients: `TAPS` is the number loaded and nothing else selects
(42_loop_filter.md R135). -/
def tapsOf : List RegWord → Option Taps
  | [b0] => some (.one b0.toInt)
  | [b0, b1] => some (.two b0.toInt b1.toInt)
  | [b0, b1, b2] => some (.three b0.toInt b1.toInt b2.toInt)
  | _ => none

/-- The coefficient set that a `PROC` reads. -/
def Engine.taps (e : Engine) : Option Taps := tapsOf e.coef

end Sys2Proof.Machine
end

