-- ==== Sys2Proof/Machine/Configure.lean ====
section
/-! DEFINITION. The configuration commands `LDC`, `LDT`, `INIT` (44_config_commands.md R171, R172, R175, R176). The word's
field check comes first, in the decoder and the step (60_exceptions.md R197); then the mode, then the command's own check. -/

namespace Sys2Proof.Machine

/-- `LDC v` (R171). -/
def execLdc (v : Int) (s : State) : Host.Outcome State Fault Refusal :=
  if s.engine.mode ≠ .unconf then raise s .illegalMode
  else if Config.MAX_TAPS ≤ s.engine.coefFill then raise s .overfill
  else succeed s (s.engine.pushCoef v) 0#64

/-- `LDT v` (R172). -/
def execLdt (v : Int) (s : State) : Host.Outcome State Fault Refusal :=
  if s.engine.mode ≠ .unconf then raise s .illegalMode
  else if Config.N ≤ s.engine.tblFill then raise s .overfill
  else succeed s (s.engine.pushTbl v) 0#64

/-- A coefficient fits `CW = 18` bits signed (R176; 42_loop_filter.md R140). -/
abbrev CoefInRange (c : Int) : Prop := -pow2 (Config.CW - 1) ≤ c ∧ c ≤ pow2 (Config.CW - 1) - 1

/-- `validate()`: the first cause that applies, in the order of R176. -/
def Engine.validate (e : Engine) : CfgErr :=
  if e.coefFill = 0 then .noCoef
  else if e.coef.any (fun c => !decide (CoefInRange c.toInt)) then .coefRange
  else if e.tblFill ≠ Config.N then .tblSize
  else .none

/-- `INIT det` (R175). -/
def execInit (det : Detector) (s : State) : Host.Outcome State Fault Refusal :=
  if s.engine.mode ≠ .unconf then raise s .illegalMode
  else
    match s.engine.validate with
    | .none => succeed s (s.engine.start det) 0#64
    | .noCoef => raiseCfgError s .noCoef
    | .coefRange => raiseCfgError s .coefRange
    | .tblSize => raiseCfgError s .tblSize

end Sys2Proof.Machine
end

