-- ==== Sys2Proof/Machine/Control.lean ====
section
/-! DEFINITION. The commands without operands, `NOP` and `RESET` (44_config_commands.md R170, R177). -/

namespace Sys2Proof.Machine

/-- `NOP` (R170): answers `OK` in every mode. -/
def execNop (s : State) : Host.Outcome State Fault Refusal := succeed s s.engine 0#64

/-- `RESET` (R177): `CLEAR`, in `READY` only. -/
def execReset (s : State) : Host.Outcome State Fault Refusal :=
  if s.engine.mode ≠ .ready then raise s .illegalMode else succeed s s.engine.clear 0#64

end Sys2Proof.Machine
end

