-- ==== Sys2Proof/Machine/Detector.lean ====
section
/-! DEFINITION. The phase detectors and the error scaling (41_phase_detector.md R110 to R123). -/

namespace Sys2Proof.Machine

/-- The angle of the rational detector before its sign, for `(i, q) != (0, 0)` (R112 for `q >= 0`, R113 for `q < 0`). -/
def rationalAngle (i q : Int) : Int :=
  if 0 ≤ q then
    Config.QT - tdiv (shl (q - absInt i) Config.K) (q + absInt i)
  else
    3 * Config.QT - tdiv (shl (q + absInt i) Config.K) (absInt i - q)

/-- `detect_rational` (R111 to R114): the degenerate input first; the result is negated if `i < 0`. -/
def detectRational (i q : Int) : Int :=
  if i = 0 ∧ q = 0 then 0
  else if i < 0 then -rationalAngle i q
  else rationalAngle i q

/-- The rotator's working vector and angle accumulator (R115). -/
structure Rotor where
  x : Int
  y : Int
  ang : Int
  deriving DecidableEq, Repr

/-- The pre-rotation by a quarter turn when `i < 0` (R115). -/
def preRotate (i q : Int) : Rotor :=
  if 0 ≤ i then ⟨i, q, 0⟩
  else if 0 ≤ q then ⟨q, -i, Config.RAW_PI / 2⟩
  else ⟨-q, i, -(Config.RAW_PI / 2)⟩

/-- One iteration, the three assignments using the values from before it; `y = 0` counts as positive (R116). -/
def rotate (j : Nat) (atan : Int) (r : Rotor) : Rotor :=
  if 0 ≤ r.y then ⟨r.x + asr r.y j, r.y - asr r.x j, r.ang + atan⟩
  else ⟨r.x - asr r.y j, r.y + asr r.x j, r.ang - atan⟩

/-- The iterations from `j` on, one per entry of the arctangent table (R116). -/
def rotateAll (j : Nat) (atans : List Int) (r : Rotor) : Rotor :=
  match atans with
  | [] => r
  | a :: rest => rotateAll (j + 1) rest (rotate j a r)

/-- `wrap_raw` (R121). -/
def wrapRaw (a : Int) : Int :=
  if a > Config.RAW_PI then a - 2 * Config.RAW_PI
  else if a ≤ -Config.RAW_PI then a + 2 * Config.RAW_PI
  else a

/-- `detect_cordic`: the raw angle and the magnitude (R111, R115, R116, R118, R121, R122). -/
def detectCordic (i q : Int) : Int × Int :=
  if i = 0 ∧ q = 0 then (0, 0)
  else
    let r := rotateAll 0 Config.ATAN (preRotate i q)
    (wrapRaw r.ang, asr (r.x * Config.CGAIN) Config.CGAIN_FRAC)

/-- `e = sat_EW(raw * ERR_SCALE)` (R123). -/
def scaleError (raw : Int) : Int := sat Config.EW (raw * Config.ERR_SCALE)

/-- `detect(i, q)` with the detector that `DET` selects (R110): the raw angle, and the engine after the write of `MAG`,
which happens with `DET = 1` only (R120). -/
def Engine.detect (e : Engine) (i q : Int) : Int × Engine :=
  match e.det with
  | .rational => (detectRational i q, e)
  | .cordic => ((detectCordic i q).1, e.setMag (detectCordic i q).2)

end Sys2Proof.Machine
end

