-- ==== Sys2Proof/Machine/Filter.lean ====
section
/-! DEFINITION. The loop filter with quantization-error feedback (42_loop_filter.md R130 to R138). -/

namespace Sys2Proof.Machine

/-- The feed-forward sum `acc`, exact; a coefficient that was not loaded contributes nothing (R131). -/
def feedForward (t : Taps) (err x1 x2 qerr : Int) : Int :=
  match t with
  | .one b0 => err * b0 + qerr
  | .two b0 b1 => err * b0 + x1 * b1 + qerr
  | .three b0 b1 b2 => err * b0 + x1 * b1 + x2 * b2 + qerr

/-- The recursion, fixed by `TAPS` (R135). -/
def recursion (t : Taps) (ySh y1 y2 : Int) : Int :=
  match t with
  | .one _ => ySh
  | .two _ _ => ySh + y1
  | .three _ _ _ => ySh + 2 * y1 - y2

/-- `y_raw = sat_AW(acc)` (R132). -/
def Engine.yRaw (e : Engine) (t : Taps) (err : Int) : Int :=
  sat Config.AW (feedForward t err e.x1.toInt e.x2.toInt (e.qerr.toNat : Int))

/-- `rem = y_raw - (y_sh << FF)` with `y_sh = asr(y_raw, FF)` (R133). -/
def remainder (yRaw : Int) : Int := yRaw - shl (asr yRaw Config.FF) Config.FF

/-- `y0 = clamp(y_pre, Y_MIN, Y_MAX)` (R136). -/
def Engine.correction (e : Engine) (t : Taps) (err : Int) : Int :=
  clamp (recursion t (asr (e.yRaw t err) Config.FF) e.y1.toInt e.y2.toInt) Config.Y_MIN Config.Y_MAX

/-- `advance(e)`: the correction `y0`, and the engine after the writes of `QERR`, `X2`, `X1`, `Y2`, `Y1` (R138). -/
def Engine.advance (e : Engine) (t : Taps) (err : Int) : Int × Engine :=
  (e.correction t err, e.shiftFilter (remainder (e.yRaw t err)) err (e.correction t err))

end Sys2Proof.Machine
end

