-- ==== Sys2Proof/Machine/Nco.lean ====
section
/-! DEFINITION. The sine table lookup (40_sine_table_nco.md R100 to R103) and the phase wrap of the oscillator
(43_process.md R154). -/

namespace Sys2Proof.Machine

/-- `phase_index(p) = asr(p + 2^(STEP_SHIFT-1), STEP_SHIFT) mod N`: the table index of a phase, a half step rounding
toward plus infinity (R100). -/
def phaseIndex (p : Int) : Nat :=
  (asr (p + pow2 (Config.STEP_SHIFT - 1)) Config.STEP_SHIFT % (Config.N : Int)).toNat

/-- `osc_q(p) = TBL[phase_index(p)]` (R101). -/
def Engine.oscQ (e : Engine) (p : Int) : Option Int := e.tblAt (phaseIndex p)

/-- `osc_i(p) = TBL[(phase_index(p) + N/4) mod N]` (R102). -/
def Engine.oscI (e : Engine) (p : Int) : Option Int := e.tblAt ((phaseIndex p + Config.N / 4) % Config.N)

/-- `lookup(p) = (osc_i(p), osc_q(p))` (R103). It has a value when both entries do, as they do in `READY` (R101). -/
def Engine.lookup (e : Engine) (p : Int) : Option (Int × Int) :=
  match e.oscI p, e.oscQ p with
  | some oi, some oq => some (oi, oq)
  | _, _ => none

/-- `wrap_phase`: one comparison pair and at most one cycle subtracted or added (43_process.md R154). -/
def wrapPhase (p : Int) : Int :=
  if p > Config.PHASE_PI then p - Config.CYCLE
  else if p ≤ -Config.PHASE_PI then p + Config.CYCLE
  else p

end Sys2Proof.Machine
end

