-- ==== Sys2Proof/Machine/Proc.lean ====
section
/-! DEFINITION. The mixer (43_process.md R150, R151) and the per-sample command `PROC` (R155, R156). -/

namespace Sys2Proof.Machine

/-- `mix(i, q, oi, oq)`: the product with the conjugate of the oscillator, floored back to the sample format and
saturated: `(synced_i, synced_q)` (R150, R151). -/
def mix (i q oi oq : Int) : Int × Int :=
  (sat Config.SW (asr (i * oi + q * oq) Config.SF), sat Config.SW (asr (q * oi - i * oq) Config.SF))

/-- Steps 2 to 5 of `PROC` for the pair `(oi, oq)` looked up in step 1: the scaled error and the engine after the sample
(R155). -/
def Engine.sample (e : Engine) (t : Taps) (i q oi oq : Int) : Int × Engine :=
  let residual := mix i q oi oq
  let detected := e.detect residual.1 residual.2
  let err := scaleError detected.1
  let filtered := detected.2.advance t err
  (err, filtered.2.setPhase (wrapPhase (e.phase.toInt + filtered.1)))

/-- `PROC i, q` (R155). The pair is looked up from the phase the previous command left, before this one updates it
(R156, R157). -/
def execProc (i q : Int) (s : State) : Host.Outcome State Fault Refusal :=
  if s.engine.mode ≠ .ready then raise s .illegalMode
  else
    match s.engine.lookup s.engine.phase.toInt with
    | none => .fault .unwrittenTableEntry
    | some (oi, oq) =>
      match s.engine.taps with
      | none => .fault .unwrittenCoefficient
      | some t =>
        let sampled := s.engine.sample t i q oi oq
        succeed s sampled.2 (procData sampled.1 oq oi)

end Sys2Proof.Machine
end

