-- ==== Sys2Proof/Machine/Flags.lean ====
section
/-! DEFINITION. The engine has no flags and no condition codes (10_state.md R32 (c)): a saturation leaves no trace
(60_exceptions.md R207). What stands in their place is the coded control state: the codes of `MODE`, `CFGERR` and `DET`,
the `STATUS` register that shows them (R36), and the status codes of a response (30_encoding.md R75). -/

namespace Sys2Proof.Machine

/-- The value of `MODE` (R21). -/
def Mode.code : Mode → BitVec 2
  | .unconf => 0#2
  | .ready => 1#2
  | .failed => 2#2

/-- The value of `CFGERR` (R22). -/
def CfgErr.code : CfgErr → BitVec 4
  | .none => 0#4
  | .noCoef => 1#4
  | .coefRange => 2#4
  | .tblSize => 3#4

/-- The value of `rsp_status` (30_encoding.md R75). -/
def Status.code : Status → BitVec 4
  | .ok => 0#4
  | .illegalOp => 1#4
  | .illegalField => 2#4
  | .illegalMode => 3#4
  | .badAddr => 4#4
  | .overfill => 5#4
  | .cfgError => 6#4

/-- The `STATUS` register (R36): `MODE` in bits 1:0, zero in 3:2, `CFGERR` in 7:4, `DET` in 8, zero in 31:9. -/
def Engine.statusWord (e : Engine) : RegWord :=
  0#23 ++ e.det.bit ++ e.cfgerr.code ++ 0#2 ++ e.mode.code

end Sys2Proof.Machine
end

