-- ==== Sys2Proof/Machine/Readback.lean ====
section
/-! DEFINITION. The register map (10_state.md R35 to R44) and the read-back commands `RDREG` and `RDT`
(44_config_commands.md R173, R174). Reading has no side effect (R35; 20_memory.md R53). -/

namespace Sys2Proof.Machine

/-- The registers of the register map, under the names of 10_state.md R35, R42 and R43. -/
inductive Reg where
  | status | coefFill | tblFill
  | b0 | b1 | b2 | a1 | a2
  | phase | x1 | x2 | y1 | y2 | qerr | mag
  | sw | sf | logn | k | pf | pw | ew | aw | yw | cw | ff | errScale | iters
  | atan0 | atan1 | atan2 | atan3 | atan4 | atan5 | cgain
  deriving DecidableEq, Repr

/-- The address of a register (R35, R42, R43). -/
def Reg.addr : Reg → Nat
  | .status => 0x000
  | .coefFill => 0x002
  | .tblFill => 0x003
  | .b0 => 0x010
  | .b1 => 0x011
  | .b2 => 0x012
  | .a1 => 0x013
  | .a2 => 0x014
  | .phase => 0x020
  | .x1 => 0x021
  | .x2 => 0x022
  | .y1 => 0x023
  | .y2 => 0x024
  | .qerr => 0x025
  | .mag => 0x026
  | .sw => 0x030
  | .sf => 0x031
  | .logn => 0x032
  | .k => 0x033
  | .pf => 0x034
  | .pw => 0x035
  | .ew => 0x036
  | .aw => 0x037
  | .yw => 0x038
  | .cw => 0x039
  | .ff => 0x03A
  | .errScale => 0x03B
  | .iters => 0x03C
  | .atan0 => 0x040
  | .atan1 => 0x041
  | .atan2 => 0x042
  | .atan3 => 0x043
  | .atan4 => 0x044
  | .atan5 => 0x045
  | .cgain => 0x046

/-- Every register of the map (R35). -/
def Reg.all : List Reg :=
  [.status, .coefFill, .tblFill, .b0, .b1, .b2, .a1, .a2, .phase, .x1, .x2, .y1, .y2, .qerr, .mag,
   .sw, .sf, .logn, .k, .pf, .pw, .ew, .aw, .yw, .cw, .ff, .errScale, .iters,
   .atan0, .atan1, .atan2, .atan3, .atan4, .atan5, .cgain]

/-- The register at an address; none at every address outside the map (R44). -/
def Reg.atAddr (a : Nat) : Option Reg := Reg.all.find? (fun r => r.addr == a)

/-- `A1`: the implied first denominator coefficient, a plain integer; no value while no coefficient is loaded (R25, R40). -/
def Engine.impliedA1 (e : Engine) : Option Int :=
  match e.taps with
  | some (.one _) => some 0
  | some (.two _ _) => some (-1)
  | some (.three _ _ _) => some (-2)
  | none => none

/-- `A2`: the implied second denominator coefficient (R25, R40). -/
def Engine.impliedA2 (e : Engine) : Option Int :=
  match e.taps with
  | some (.one _) => some 0
  | some (.two _ _) => some 0
  | some (.three _ _ _) => some 1
  | none => none

/-- The value of a register, signed where R35 says so; none where it has no value (R36 to R43). -/
def Engine.regValue (e : Engine) : Reg → Option Int
  | .status => some (e.statusWord.toNat : Int)
  | .coefFill => some (e.coefFill : Int)
  | .tblFill => some (e.tblFill : Int)
  | .b0 => e.coefAt 0
  | .b1 => e.coefAt 1
  | .b2 => e.coefAt 2
  | .a1 => e.impliedA1
  | .a2 => e.impliedA2
  | .phase => some e.phase.toInt
  | .x1 => some e.x1.toInt
  | .x2 => some e.x2.toInt
  | .y1 => some e.y1.toInt
  | .y2 => some e.y2.toInt
  | .qerr => some (e.qerr.toNat : Int)
  | .mag => some (e.mag.toNat : Int)
  | .sw => some (Config.SW : Int)
  | .sf => some (Config.SF : Int)
  | .logn => some (Config.LOGN : Int)
  | .k => some (Config.K : Int)
  | .pf => some (Config.PF : Int)
  | .pw => some (Config.PW : Int)
  | .ew => some (Config.EW : Int)
  | .aw => some (Config.AW : Int)
  | .yw => some (Config.YW : Int)
  | .cw => some (Config.CW : Int)
  | .ff => some (Config.FF : Int)
  | .errScale => some Config.ERR_SCALE
  | .iters => some (Config.ITERS : Int)
  | .atan0 => Config.ATAN[0]?
  | .atan1 => Config.ATAN[1]?
  | .atan2 => Config.ATAN[2]?
  | .atan3 => Config.ATAN[3]?
  | .atan4 => Config.ATAN[4]?
  | .atan5 => Config.ATAN[5]?
  | .cgain => some Config.CGAIN

/-- `value(addr)` of 44_config_commands.md R173; none for an address that has no value. -/
def Engine.readAddr (e : Engine) (a : Nat) : Option Int := (Reg.atAddr a).bind e.regValue

/-- `RDREG addr` (R173). -/
def execRdreg (r : Nat) (s : State) : Host.Outcome State Fault Refusal :=
  match s.engine.readAddr r with
  | none => raise s .badAddr
  | some v => succeed s s.engine (readData v)

/-- `RDT k` (R174). -/
def execRdt (k : Nat) (s : State) : Host.Outcome State Fault Refusal :=
  match s.engine.tblAt k with
  | none => raise s .badAddr
  | some v => succeed s s.engine (readData v)

end Sys2Proof.Machine
end

