-- ==== Sys2Proof/Machine/Dispatch.lean ====
section
/-! DEFINITION. The meaning of each command, one arm per constructor of `Instr`. -/

namespace Sys2Proof.Machine

def exec (i : Instr) (s : State) : Host.Outcome State Fault Refusal :=
  match i with
  | .nop => Sys2Proof.Machine.execNop s
  | .proc inph quad => Sys2Proof.Machine.execProc inph quad s
  | .ldc v => Sys2Proof.Machine.execLdc v s
  | .ldt v => Sys2Proof.Machine.execLdt v s
  | .rdreg r => Sys2Proof.Machine.execRdreg r s
  | .rdt k => Sys2Proof.Machine.execRdt k s
  | .init det => Sys2Proof.Machine.execInit det s
  | .reset => Sys2Proof.Machine.execReset s

end Sys2Proof.Machine
end

