-- ==== Sys2Proof/Machine/Channel.lean ====
section
/-! DEFINITION. What the engine does with one input of the host, and how an input is placed at the head of the command
channel (30_encoding.md R71, R72, R79; 70_reset_and_hazards.md R210, R211). -/

namespace Sys2Proof.Machine

/-- One command word (30_encoding.md R79, 60_exceptions.md R197): an illegal opcode, then a non-zero must-be-zero field,
are answered with their status; a well-formed command is executed. -/
def runWord (w : CmdWord) (s : State) : Host.Outcome State Fault Refusal :=
  match decode w with
  | .illegalOp => raise s .illegalOp
  | .illegalField => raise s .illegalField
  | .command i => exec i s

/-- One input of the host, the rest of the inputs being `s.pending` (70_reset_and_hazards.md R210, R211). A command that
a reset abandons produces no response, and leaves the reset state (R211). -/
def runInput (x : HostInput) (s : State) : Host.Outcome State Fault Refusal :=
  match x with
  | .command w => runWord w s
  | .hardwareReset => .next s.hardwareReset
  | .abandoned _ => .next s.hardwareReset

/-- One transaction: the next input is taken from the channel and carried out. With no input the engine holds its state
and does nothing (60_exceptions.md R206). -/
def runChannel (s : State) : Host.Outcome State Fault Refusal :=
  match s.pending with
  | [] => .next s
  | x :: rest => runInput x (s.withPending rest)

/-- The command word that an instruction of the opcode table stands for (30_encoding.md R73: one word of 48 bits). -/
def fetchWord (nbits w : Nat) : CmdWord := BitVec.ofNat 48 (w % 2 ^ nbits)

/-- The machine whose next input is the given command word. -/
def State.offer (s : State) (w : CmdWord) : State := s.withPending (.command w :: s.pending)

end Sys2Proof.Machine
end

