-- ==== Sys2Proof/Machine/Step.lean ====
section
/-! DEFINITION. One step of the machine: one transaction at the command port (30_encoding.md R72). -/

namespace Sys2Proof.Machine

/-- One step (R72): the state and the host's next input give the new state and at most one response. -/
def step (s : State) : Host.Outcome State Fault Refusal := runChannel s

/-- The instruction whose bits are `w`, placed where the next step takes its command from: the head of the command channel
(log 3). -/
def State.withFetchWord (s : State) (nbits w : Nat) : State := s.offer (fetchWord nbits w)

end Sys2Proof.Machine
end

