-- ==== Sys2Proof/Machine/Assembler.lean ====
section
/-! DEFINITION. The textual form of commands (30_encoding.md R80) and the three pseudo-commands (R81). This is on the host's
side of the port: the engine sees only command words. What R80 does not spell out (letter case, blanks, a plus sign, a
detector written as its number) is log 12. -/

namespace Sys2Proof.Machine

/-- A line of assembly text. -/
abbrev Text := List Char

/-- The text before the first `;` (R80). -/
def stripComment (t : Text) : Text := t.takeWhile (fun c => c != ';')

/-- A blank: a space or a tab. -/
def isBlank (c : Char) : Bool := c == ' ' || c == '\t'

/-- The text without blanks at its ends. -/
def trim (t : Text) : Text := ((t.dropWhile isBlank).reverse.dropWhile isBlank).reverse

/-- The pieces between commas, `acc` being the piece so far, reversed. -/
def splitCommas (acc : Text) : Text → List Text
  | [] => [acc.reverse]
  | c :: rest => if c == ',' then acc.reverse :: splitCommas [] rest else splitCommas (c :: acc) rest

/-- The operands of a line: none for an empty text, else the pieces between commas, trimmed. -/
def operandTexts (t : Text) : List Text := if t.isEmpty then [] else (splitCommas [] t).map trim

/-- The value of a decimal digit. -/
def decDigit (c : Char) : Option Nat :=
  if '0'.toNat ≤ c.toNat ∧ c.toNat ≤ '9'.toNat then some (c.toNat - '0'.toNat) else none

/-- The value of a hexadecimal digit, either case. -/
def hexDigit (c : Char) : Option Nat :=
  if 'A'.toNat ≤ c.toNat ∧ c.toNat ≤ 'F'.toNat then some (c.toNat - 'A'.toNat + 10)
  else if 'a'.toNat ≤ c.toNat ∧ c.toNat ≤ 'f'.toNat then some (c.toNat - 'a'.toNat + 10)
  else decDigit c

/-- The value of a row of digits, `acc` being the value so far. -/
def digits (base : Nat) (digit : Char → Option Nat) (acc : Nat) : Text → Option Nat
  | [] => some acc
  | c :: rest =>
    match digit c with
    | some d => digits base digit (acc * base + d) rest
    | none => none

/-- A row of at least one decimal digit. -/
def decimal (t : Text) : Option Nat := if t.isEmpty then none else digits 10 decDigit 0 t

/-- An operand: decimal, optionally signed, or `0x` hexadecimal (R80). -/
def number : Text → Option Int
  | '-' :: rest => (decimal rest).map (fun n => -(n : Int))
  | '+' :: rest => (decimal rest).map (fun n => (n : Int))
  | '0' :: 'x' :: rest => if rest.isEmpty then none else (digits 16 hexDigit 0 rest).map (fun n => (n : Int))
  | t => (decimal t).map (fun n => (n : Int))

/-- An operand that is an address or an index: not negative. -/
def natural (t : Text) : Option Nat :=
  match number t with
  | some v => if 0 ≤ v then some v.toNat else none
  | none => none

/-- The name of a register (10_state.md R35, R42, R43). -/
def Reg.name : Reg → String
  | .status => "STATUS"
  | .coefFill => "COEF_FILL"
  | .tblFill => "TBL_FILL"
  | .b0 => "B0"
  | .b1 => "B1"
  | .b2 => "B2"
  | .a1 => "A1"
  | .a2 => "A2"
  | .phase => "PHASE"
  | .x1 => "X1"
  | .x2 => "X2"
  | .y1 => "Y1"
  | .y2 => "Y2"
  | .qerr => "QERR"
  | .mag => "MAG"
  | .sw => "SW"
  | .sf => "SF"
  | .logn => "LOGN"
  | .k => "K"
  | .pf => "PF"
  | .pw => "PW"
  | .ew => "EW"
  | .aw => "AW"
  | .yw => "YW"
  | .cw => "CW"
  | .ff => "FF"
  | .errScale => "ERR_SCALE"
  | .iters => "ITERS"
  | .atan0 => "ATAN0"
  | .atan1 => "ATAN1"
  | .atan2 => "ATAN2"
  | .atan3 => "ATAN3"
  | .atan4 => "ATAN4"
  | .atan5 => "ATAN5"
  | .cgain => "CGAIN"

/-- The operand of `RDREG`: a register name or an address (R80). -/
def registerOperand (t : Text) : Option Nat :=
  match Reg.all.find? (fun r => r.name.toList == t) with
  | some r => some r.addr
  | none => natural t

/-- The operand of `INIT`: `RATIONAL` (0) or `CORDIC` (1) (R80). -/
def detectorOperand (t : Text) : Option Detector :=
  if t == "RATIONAL".toList then some .rational
  else if t == "CORDIC".toList then some .cordic
  else
    match number t with
    | some v => if v = 0 then some .rational else if v = 1 then some .cordic else none
    | none => none

/-- `LDTREF`: the whole reference table, entry 0 first (R81). -/
def ldtref : List Instr := refTable.map Instr.ldt

/-- `LDCS b0[, b1[, b2]]`: one `LDC` per coefficient, in order (R81). -/
def ldcs (bs : List Int) : List Instr := bs.map Instr.ldc

/-- `CONFIG det, b0[, b1[, b2]]`: the whole configuration (R81). -/
def config (det : Detector) (bs : List Int) : List Instr := ldcs bs ++ ldtref ++ [.init det]

/-- The values of a list of numeric operands; none if one of them is no number. -/
def numbers : List Text → Option (List Int)
  | [] => some []
  | t :: rest =>
    match number t, numbers rest with
    | some v, some vs => some (v :: vs)
    | _, _ => none

/-- The one to three coefficients of `LDCS` and `CONFIG` (R81). -/
def coefficientOperands (ts : List Text) : Option (List Int) :=
  if 1 ≤ ts.length ∧ ts.length ≤ Config.MAX_TAPS then numbers ts else none

/-- The commands that a mnemonic and its operands stand for, before the ranges are checked (R80, R81). -/
def commandsOf (mnemonic : Text) (ops : List Text) : Option (List Instr) :=
  if mnemonic == "NOP".toList then (if ops.isEmpty then some [.nop] else none)
  else if mnemonic == "PROC".toList then
    match ops with
    | [i, q] =>
      match number i, number q with
      | some vi, some vq => some [.proc vi vq]
      | _, _ => none
    | _ => none
  else if mnemonic == "LDC".toList then
    match ops with
    | [v] => (number v).map (fun x => [.ldc x])
    | _ => none
  else if mnemonic == "LDT".toList then
    match ops with
    | [v] => (number v).map (fun x => [.ldt x])
    | _ => none
  else if mnemonic == "RDREG".toList then
    match ops with
    | [r] => (registerOperand r).map (fun x => [.rdreg x])
    | _ => none
  else if mnemonic == "RDT".toList then
    match ops with
    | [k] => (natural k).map (fun x => [.rdt x])
    | _ => none
  else if mnemonic == "INIT".toList then
    match ops with
    | [d] => (detectorOperand d).map (fun x => [.init x])
    | _ => none
  else if mnemonic == "RESET".toList then (if ops.isEmpty then some [.reset] else none)
  else if mnemonic == "LDTREF".toList then (if ops.isEmpty then some ldtref else none)
  else if mnemonic == "LDCS".toList then (coefficientOperands ops).map ldcs
  else if mnemonic == "CONFIG".toList then
    match ops with
    | d :: bs =>
      match detectorOperand d, coefficientOperands bs with
      | some det, some vs => some (config det vs)
      | _, _ => none
    | [] => none
  else none

/-- The commands a line stands for; a line of blanks and a comment stands for none. The assembler refuses an operand
outside its range (R80). -/
def parseLine (line : Text) : Option (List Instr) :=
  let body := trim (stripComment line)
  if body.isEmpty then some []
  else
    match commandsOf (body.takeWhile (fun c => !isBlank c)) (operandTexts (trim (body.dropWhile (fun c => !isBlank c)))) with
    | some l => if l.all Instr.wellFormed then some l else none
    | none => none

/-- The command words a line assembles to (R80, R81). -/
def assemble (line : Text) : Option (List CmdWord) := (parseLine line).map (fun l => l.map encode)

end Sys2Proof.Machine
end

