-- ==== Sys2Proof/Safety.lean ====
section
/-! DEFINITION. What a sound state and a safe step are, in the terms the statements use: the invariants of 10_state.md R34
with those of R21 to R24, R26, R31 and R41, and the outcomes a step may have. -/

namespace Sys2Proof.Machine

/-- The engine can run a `PROC`: it is in `READY`, one to three coefficients are loaded and the table is full
(20_memory.md R64). -/
abbrev Engine.ReadyToSample (e : Engine) : Prop :=
  e.mode = .ready ∧ 1 ≤ e.coef.length ∧ e.coef.length ≤ Config.MAX_TAPS ∧ e.tbl.length = Config.N

/-- What holds of the engine in every reachable state. `Y1`, `Y2`, `QERR` and `MAG` are in their ranges by their types
(R29 to R31); the rest of R34 is `phase` and the bounds of `X1` and `X2`. -/
structure Engine.Inv (e : Engine) : Prop where
  /-- `-PHASE_PI < PHASE` (R27, R34). -/
  phase_low : -Config.PHASE_PI < e.phase.toInt
  /-- `PHASE <= PHASE_PI` (R27, R34). -/
  phase_high : e.phase.toInt ≤ Config.PHASE_PI
  /-- `|X1| <= 2^28` (R34). -/
  x1_range : -Config.PHASE_PI ≤ e.x1.toInt ∧ e.x1.toInt ≤ Config.PHASE_PI
  /-- `|X2| <= 2^28` (R34). -/
  x2_range : -Config.PHASE_PI ≤ e.x2.toInt ∧ e.x2.toInt ≤ Config.PHASE_PI
  /-- `COEF_FILL <= 3` and `TBL_FILL <= N` (R24, R26; 44_config_commands.md R176). -/
  stores : Memory.wf e
  /-- `CFGERR` is 0 in `UNCONF` and `READY` (R22). -/
  cfgerr_none : e.mode ≠ .failed → e.cfgerr = .none
  /-- `CFGERR` is non-zero in `FAILED`, and is the cause that `validate` finds (R22; 44_config_commands.md R176). -/
  cfgerr_cause : e.mode = .failed → e.cfgerr ≠ .none ∧ e.cfgerr = e.validate
  /-- In `READY` the configuration is valid (R24, R26). -/
  configured : e.mode = .ready → e.validate = .none
  /-- Outside `READY`, `DET` is 0 and the loop state is zero (R23, R41). -/
  idle : e.mode ≠ .ready → e.det = .rational ∧ e.clear = e
  /-- With `DET = 0`, `MAG` stays 0 (R31). -/
  mag_rational : e.det = .rational → e.mag = 0#32

/-- The machine's invariant is its engine's: the inputs still to come and the responses given are unconstrained. -/
abbrev State.Inv (s : State) : Prop := s.engine.Inv

/-- The step neither faults nor is refused. -/
abbrev Completes (o : Host.Outcome State Fault Refusal) : Prop := ∃ t, o = .next t

end Sys2Proof.Machine
end

