-- ==== Sys2Proof/Certificates/Slice0/Obligations.lean ====
section
/-! DEFINITION. The statements for the provers. `Sys2Proof.Spec` holds what the statements compare the machine with: the
spec's tables and pseudocode, written again from the rules and not from the model's own definitions. -/

namespace Sys2Proof.Spec

open Sys2Proof.Machine

/-- The machine when the host's next input is the command word `w` (30_encoding.md R71). -/
def sent (s : State) (w : CmdWord) : State := { s with pending := .command w :: s.pending }

/-- The machine after a command: the engine is `e`, one response has been produced, and the inputs still to come are
untouched. -/
def answered (s : State) (e : Engine) (status : Status) (data : RspData) : State :=
  { engine := e, pending := s.pending, responses := s.responses ++ [⟨status, data⟩] }

/-- A field that the format of the opcode requires to be zero is not (60_exceptions.md R192). -/
def Malformed (op : BitVec 4) (a : BitVec 12) (d : BitVec 32) : Prop :=
  match op.toNat with
  | 0 => a ≠ 0#12 ∨ d ≠ 0#32
  | 1 => a ≠ 0#12
  | 2 => a ≠ 0#12
  | 3 => a ≠ 0#12 ∨ 65536 ≤ d.toNat
  | 4 => d ≠ 0#32
  | 5 => d ≠ 0#32 ∨ 2048 ≤ a.toNat
  | 6 => a ≠ 0#12 ∨ 2 ≤ d.toNat
  | 7 => a ≠ 0#12 ∨ d ≠ 0#32
  | _ => False

/-- Which command is legal in which mode (60_exceptions.md R201). -/
def legal : Mnemonic → Mode → Bool
  | .nop, _ => true
  | .proc, .ready => true
  | .proc, _ => false
  | .ldc, .unconf => true
  | .ldc, _ => false
  | .ldt, .unconf => true
  | .ldt, _ => false
  | .rdreg, _ => true
  | .rdt, _ => true
  | .init, .unconf => true
  | .init, _ => false
  | .reset, .ready => true
  | .reset, _ => false

/-- The value of `MODE` (10_state.md R21). -/
def modeNumber : Mode → Nat
  | .unconf => 0
  | .ready => 1
  | .failed => 2

/-- The value of `CFGERR` (10_state.md R22). -/
def causeNumber : CfgErr → Nat
  | .none => 0
  | .noCoef => 1
  | .coefRange => 2
  | .tblSize => 3

/-- The value of `DET` (10_state.md R23). -/
def detNumber : Detector → Nat
  | .rational => 0
  | .cordic => 1

/-- `A1` by `COEF_FILL` (10_state.md R40). -/
def a1Word (fill : Nat) : Option RegWord :=
  if fill = 0 then none else if fill = 1 then some 0#32 else if fill = 2 then some 0xFFFFFFFF#32 else some 0xFFFFFFFE#32

/-- `A2` by `COEF_FILL` (10_state.md R40). -/
def a2Word (fill : Nat) : Option RegWord :=
  if fill = 0 then none else if fill = 3 then some 1#32 else some 0#32

/-- The parameter registers, `ATAN` and `CGAIN`: address and value (10_state.md R42, R43). -/
def constantRegisters : List (Nat × RegWord) :=
  [(0x030, 16#32), (0x031, 15#32), (0x032, 11#32), (0x033, 13#32), (0x034, 28#32), (0x035, 32#32), (0x036, 32#32),
   (0x037, 48#32), (0x038, 29#32), (0x039, 18#32), (0x03A, 16#32), (0x03B, 8192#32), (0x03C, 6#32),
   (0x040, 8192#32), (0x041, 4836#32), (0x042, 2555#32), (0x043, 1297#32), (0x044, 651#32), (0x045, 326#32),
   (0x046, 19902#32)]

/-- What a read of an address returns, as the 32-bit pattern; none where the read fails (10_state.md R35 to R44). -/
def registerWord (e : Engine) (a : Nat) : Option RegWord :=
  if a = 0x000 then some (BitVec.ofNat 32 (modeNumber e.mode + 16 * causeNumber e.cfgerr + 256 * detNumber e.det))
  else if a = 0x002 then some (BitVec.ofNat 32 e.coef.length)
  else if a = 0x003 then some (BitVec.ofNat 32 e.tbl.length)
  else if a = 0x010 then e.coef[0]?
  else if a = 0x011 then e.coef[1]?
  else if a = 0x012 then e.coef[2]?
  else if a = 0x013 then a1Word e.coef.length
  else if a = 0x014 then a2Word e.coef.length
  else if a = 0x020 then some e.phase
  else if a = 0x021 then some e.x1
  else if a = 0x022 then some e.x2
  else if a = 0x023 then some (e.y1.signExtend 32)
  else if a = 0x024 then some (e.y2.signExtend 32)
  else if a = 0x025 then some (e.qerr.setWidth 32)
  else if a = 0x026 then some e.mag
  else (constantRegisters.find? (fun p => p.1 == a)).map (fun p => p.2)

/-- The cause that `INIT` reports, in the order of 44_config_commands.md R176. -/
def cause (e : Engine) : CfgErr :=
  if e.coef.length = 0 then .noCoef
  else if e.coef.any (fun c => decide (c.toInt < -131072) || decide (131071 < c.toInt)) then .coefRange
  else if e.tbl.length ≠ 2048 then .tblSize
  else .none

/-- The engine with a configuration and a cleared loop state (10_state.md R33, R46). -/
def freshLoop (det : Detector) (coef : List RegWord) (tbl : List Sample) : Engine :=
  { mode := .ready, cfgerr := .none, det := det, coef := coef, tbl := tbl,
    phase := 0#32, x1 := 0#32, x2 := 0#32, y1 := 0#29, y2 := 0#29, qerr := 0#16, mag := 0#32 }

/-- `COEF[j]`, or 0 where no such coefficient is loaded: it contributes nothing (42_loop_filter.md R131). -/
def tap (e : Engine) (j : Nat) : Int := ((e.coef[j]?).map BitVec.toInt).getD 0

/-- The feed-forward sum (42_loop_filter.md R131). -/
def acc (e : Engine) (err : Int) : Int :=
  err * tap e 0 + e.x1.toInt * tap e 1 + e.x2.toInt * tap e 2 + e.qerr.toNat

/-- `y_raw` (42_loop_filter.md R132): saturation to 48 bits. -/
def yRaw (e : Engine) (err : Int) : Int := max (-2 ^ 47) (min (2 ^ 47 - 1) (acc e err))

/-- `y_pre` (42_loop_filter.md R133, R135). -/
def yPre (e : Engine) (err : Int) : Int :=
  if e.coef.length = 1 then yRaw e err / 65536
  else if e.coef.length = 2 then yRaw e err / 65536 + e.y1.toInt
  else yRaw e err / 65536 + 2 * e.y1.toInt - e.y2.toInt

/-- `y0` (42_loop_filter.md R136). -/
def y0 (e : Engine) (err : Int) : Int := max (-268435456) (min 268435455 (yPre e err))

/-- The raw angle of a residual (43_process.md R155, step 3). -/
def raw (det : Detector) (si sq : Int) : Int :=
  match det with
  | .rational => detectRational si sq
  | .cordic => (detectCordic si sq).1

/-- The scaled error of a residual (41_phase_detector.md R123): saturation to 32 bits. -/
def err (det : Detector) (si sq : Int) : Int := max (-2 ^ 31) (min (2 ^ 31 - 1) (raw det si sq * 8192))

/-- `PROC i, q` takes `s` to `t` by the six steps of 43_process.md R155, and changes nothing else. -/
def ProcEffect (s : State) (i q : Int) (t : State) : Prop :=
  ∃ (oi oq : Sample) (data : RspData),
    s.engine.tbl[(phaseIndex s.engine.phase.toInt + 512) % 2048]? = some oi ∧
    s.engine.tbl[phaseIndex s.engine.phase.toInt]? = some oq ∧
    let residual := mix i q oi.toInt oq.toInt
    let e := err s.engine.det residual.1 residual.2
    data.extractLsb' 0 16 = oi ∧
    data.extractLsb' 16 16 = oq ∧
    (data.extractLsb' 32 32).toInt = e ∧
    t.responses = s.responses ++ [⟨.ok, data⟩] ∧
    t.pending = s.pending ∧
    t.engine.phase.toInt = wrapPhase (s.engine.phase.toInt + y0 s.engine e) ∧
    t.engine.x1.toInt = e ∧
    t.engine.x2 = s.engine.x1 ∧
    t.engine.y1.toInt = y0 s.engine e ∧
    t.engine.y2 = s.engine.y1 ∧
    (t.engine.qerr.toNat : Int) = yRaw s.engine e % 65536 ∧
    (s.engine.det = .cordic → (t.engine.mag.toNat : Int) = (detectCordic residual.1 residual.2).2) ∧
    (s.engine.det = .rational → t.engine.mag = s.engine.mag) ∧
    t.engine.mode = s.engine.mode ∧ t.engine.cfgerr = s.engine.cfgerr ∧ t.engine.det = s.engine.det ∧
    t.engine.coef = s.engine.coef ∧ t.engine.tbl = s.engine.tbl

/-- The arctangent table (41_phase_detector.md R117). -/
def arctangent (j : Nat) : Int :=
  if j = 0 then 8192 else if j = 1 then 4836 else if j = 2 then 2555 else if j = 3 then 1297 else if j = 4 then 651 else 326

/-- The working vector and the angle accumulator before the first step: `(x, y, ang)` (41_phase_detector.md R115). -/
def cordicStart (i q : Int) : Int × Int × Int :=
  if 0 ≤ i then (i, q, 0) else if 0 ≤ q then (q, -i, 16384) else (-q, i, -16384)

/-- Step `j`, all three assignments using the values from before it (41_phase_detector.md R116); the shifts floor. -/
def cordicStep (v : Int × Int × Int) (j : Nat) : Int × Int × Int :=
  if 0 ≤ v.2.1 then (v.1 + v.2.1 / 2 ^ j, v.2.1 - v.1 / 2 ^ j, v.2.2 + arctangent j)
  else (v.1 - v.2.1 / 2 ^ j, v.2.1 + v.1 / 2 ^ j, v.2.2 - arctangent j)

/-- The command loads a coefficient or a table entry. -/
def isLoad : Instr → Bool
  | .ldc _ => true
  | .ldt _ => true
  | .nop => false
  | .proc _ _ => false
  | .rdreg _ => false
  | .rdt _ => false
  | .init _ => false
  | .reset => false

/-- The coefficients that a sequence of commands loads, in order. -/
def coefficientsOf (l : List Instr) : List Int :=
  l.filterMap (fun i => match i with | .ldc v => some v | _ => none)

/-- The table entries that a sequence of commands loads, in order. -/
def entriesOf (l : List Instr) : List Int :=
  l.filterMap (fun i => match i with | .ldt v => some v | _ => none)

/-- The input is a command word. -/
def isCommand : HostInput → Bool
  | .command _ => true
  | .hardwareReset => false
  | .abandoned _ => false

end Sys2Proof.Spec

open Sys2Proof Sys2Proof.Machine Sys2Proof.Spec

/-! ## Encoding -/

/-- Decoding the word of a well-formed command gives that command, with every operand at every value (30_encoding.md R76
to R78). -/
def Obligations.DecodeEncodeRoundTrip : Prop :=
  ∀ i : Instr, i.WellFormed → decode (encode i) = .command i

/-- A word that decodes to a command is the word of that command, and the command is well formed: the encoding drops no
bit and no two words are one command (30_encoding.md R76 to R78). -/
def Obligations.EncodeDecodeRoundTrip : Prop :=
  ∀ (w : CmdWord) (i : Instr), decode w = .command i → i.WellFormed ∧ encode i = w

/-- The decoder accepts a word as a command exactly when the word matches that command's row of the opcode map, and no
word matches two rows (30_encoding.md R78). -/
def Obligations.DecoderMatchesOpcodeMap : Prop :=
  ∀ (w : CmdWord) (m : Mnemonic),
    ((∃ i : Instr, decode w = .command i ∧ i.mnemonic = m) ↔ w &&& m.maskWord = m.matchWord) ∧
    (∀ m' : Mnemonic, w &&& m.maskWord = m.matchWord → w &&& m'.maskWord = m'.matchWord → m = m')

/-- Every word has exactly one of the three outcomes, decided by its opcode and its must-be-zero fields, and the only word
that is a no-op is 0 (30_encoding.md R79). -/
def Obligations.EveryWordHasOneOutcome : Prop :=
  ∀ (op : BitVec 4) (a : BitVec 12) (d : BitVec 32),
    (decode (pack op a d) = .illegalOp ↔ 8 ≤ op.toNat) ∧
    (decode (pack op a d) = .illegalField ↔ op.toNat < 8 ∧ Malformed op a d) ∧
    ((∃ i : Instr, decode (pack op a d) = .command i ∧ i.mnemonic.opcode = op) ↔ op.toNat < 8 ∧ ¬ Malformed op a d) ∧
    (decode (pack op a d) = .command .nop ↔ pack op a d = 0#48) ∧
    (∀ w : CmdWord, ∃ op' a' d', w = pack op' a' d')

/-- The example words of 30_encoding.md R82 decode to the commands they stand for, and encode back. -/
def Obligations.ExampleWordsDecode : Prop :=
  ∀ p ∈ [(0x000000000000#48, Instr.nop), (0x100000007FFF#48, .proc 32767 0), (0x10008000FFFF#48, .proc (-1) (-32768)),
      (0x2000FFFFED42#48, .ldc (-4798)), (0x20000000121A#48, .ldc 4634), (0x30000000FFFF#48, .ldt (-1)),
      (0x300000000065#48, .ldt 101), (0x402000000000#48, .rdreg 0x020), (0x400000000000#48, .rdreg 0x000),
      (0x520000000000#48, .rdt 512), (0x600000000000#48, .init .rational), (0x600000000001#48, .init .cordic),
      (0x700000000000#48, .reset)],
    decode p.1 = .command p.2 ∧ encode p.2 = p.1

/-- A command word sent over a byte-wide transport, the least significant byte first, decodes to what the word decodes to,
and the bytes after it are left (20_memory.md R51). -/
def Obligations.ByteTransportDecodesTheWord : Prop :=
  ∀ (w : CmdWord) (rest : List Byte),
    decodeBytes (wordToBytes w ++ rest) = some (decode w, rest) ∧
    (wordToBytes w).head? = some (BitVec.ofNat 8 (w.toNat % 256))

/-- The assembler refuses or produces words that are well-formed commands: never a word with a non-zero must-be-zero field
(30_encoding.md R80). What the rule does not spell out of the text form is the model's choice (log 12). -/
def Obligations.AssembledWordsAreCommands : Prop :=
  ∀ (line : Text) (ws : List CmdWord), assemble line = some ws →
    ∀ w ∈ ws, ∃ i : Instr, i.WellFormed ∧ decode w = .command i

/-! ## The command port -/

/-- When the host's next input is a word that decodes to a well-formed command, a step takes that input from the channel
and is `exec` of that command (30_encoding.md R72, R79). -/
def Obligations.StepRunsDecodedCommand : Prop :=
  ∀ (s : State) (w : CmdWord) (i : Instr), decode w = .command i → i.WellFormed →
    step (sent s w) = exec i s

/-- The words that are no command are answered with their status, and the state of the engine is unchanged
(60_exceptions.md R191, R192). -/
def Obligations.IllegalWordsAreAnswered : Prop :=
  ∀ (s : State) (op : BitVec 4) (a : BitVec 12) (d : BitVec 32),
    (8 ≤ op.toNat → step (sent s (pack op a d)) = .next (answered s s.engine .illegalOp 0#64)) ∧
    (op.toNat < 8 → Malformed op a d → step (sent s (pack op a d)) = .next (answered s s.engine .illegalField 0#64))

/-- With no input the engine holds its state and does nothing (60_exceptions.md R206). That such a step exists is the
model's choice (log 1). -/
def Obligations.StepWithoutInputHoldsState : Prop :=
  ∀ s : State, s.pending = [] → step s = .next s

/-- A hardware reset, from any state, gives every element of the reset state, leaves the stores empty and unreadable, and
produces no response (70_reset_and_hazards.md R210, 10_state.md R45). That the stores are empty lists and that the
responses given before remain is the model's choice (log 4, log 2). -/
def Obligations.HardwareResetTakesResetState : Prop :=
  ∀ (s : State) (rest : List HostInput), s.pending = .hardwareReset :: rest →
    ∃ t : State, step s = .next t ∧ t.pending = rest ∧ t.responses = s.responses ∧
      t.engine = { mode := .unconf, cfgerr := .none, det := .rational, coef := [], tbl := [], phase := 0#32, x1 := 0#32,
                   x2 := 0#32, y1 := 0#29, y2 := 0#29, qerr := 0#16, mag := 0#32 } ∧
      (∀ k : Nat, exec (.rdt k) t = .next (answered t t.engine .badAddr 0#64)) ∧
      (∀ r ∈ [0x010, 0x011, 0x012, 0x013, 0x014], exec (.rdreg r) t = .next (answered t t.engine .badAddr 0#64))

/-- A command that a reset abandons gives no response, and its result is that of a reset just after the command, with the
response discarded (70_reset_and_hazards.md R211). That such a command is an input of its own is the model's choice (log 9). -/
def Obligations.AbandonedCommandEqualsResetAfterIt : Prop :=
  ∀ (s : State) (w : CmdWord) (rest : List HostInput) (t : State),
    step { s with pending := .command w :: .hardwareReset :: rest } = .next t →
    ∃ u : State, step t = .next u ∧
      step { s with pending := .abandoned w :: rest } = .next { u with responses := s.responses }

/-- The state after hardware reset (10_state.md R45): every element has the value the rule states, and the contents of the
two stores cannot be observed, for every read of them fails and `PROC` does not run. -/
def Obligations.ResetStateIsTheSpecs : Prop :=
  let s : State := Sys2Proof.core.reset
  (s.engine.mode = .unconf ∧ s.engine.cfgerr = .none ∧ s.engine.det = .rational ∧
    s.engine.coef.length = 0 ∧ s.engine.tbl.length = 0 ∧ s.engine.phase = 0#32 ∧ s.engine.x1 = 0#32 ∧ s.engine.x2 = 0#32 ∧
    s.engine.y1 = 0#29 ∧ s.engine.y2 = 0#29 ∧ s.engine.qerr = 0#16 ∧ s.engine.mag = 0#32) ∧
  (∀ k : Nat, exec (.rdt k) s = .next (answered s s.engine .badAddr 0#64)) ∧
  (∀ r ∈ [0x010, 0x011, 0x012], exec (.rdreg r) s = .next (answered s s.engine .badAddr 0#64)) ∧
  (∀ i q : Int, exec (.proc i q) s = .next (answered s s.engine .illegalMode 0#64))

/-- In every state of the invariant, every command word is taken from the channel and answered with exactly one response,
whose data is 0 unless its status is `OK` (30_encoding.md R71, R74). -/
def Obligations.EveryCommandGetsOneResponse : Prop :=
  ∀ (s : State) (w : CmdWord), s.Inv →
    ∃ (t : State) (r : Response), step (sent s w) = .next t ∧ t.pending = s.pending ∧
      t.responses = s.responses ++ [r] ∧ (r.status ≠ .ok → r.data = 0#64)

/-- Two machines that agree on every element of the engine respond identically to every input sequence, whatever was
answered before (10_state.md R20; 43_process.md R160). -/
def Obligations.NoHiddenState : Prop :=
  ∀ (k : Nat) (s s' : State), s.engine = s'.engine → s.pending = s'.pending →
    match Host.Core.run Sys2Proof.core k s, Host.Core.run Sys2Proof.core k s' with
    | .next t, .next t' => (t : State).engine = (t' : State).engine ∧ t.pending = t'.pending ∧
        ∃ answers : List Response, t.responses = s.responses ++ answers ∧ t'.responses = s'.responses ++ answers
    | .fault f, .fault f' => f = f'
    | .refused r, .refused r' => r = r'
    | _, _ => False

/-! ## The commands, each as its rule's pseudocode -/

/-- `NOP` (44_config_commands.md R170). -/
def Obligations.NopCommand : Prop :=
  (∀ s : State, exec .nop s = .next (answered s s.engine .ok 0#64)) ∧
  (∀ (s : State) (a : BitVec 12) (d : BitVec 32), step (sent s (pack 0#4 a d)) =
    .next (if a ≠ 0#12 ∨ d ≠ 0#32 then answered s s.engine .illegalField 0#64 else answered s s.engine .ok 0#64))

/-- `LDC v` (44_config_commands.md R171): the checks in order, then one coefficient appended, nothing else changed. -/
def Obligations.LdcCommand : Prop :=
  (∀ (s : State) (v : Int), s.engine.mode = .unconf → s.engine.coef.length < 3 →
    exec (.ldc v) s =
      .next (answered s { s.engine with coef := s.engine.coef ++ [BitVec.ofInt 32 v] } .ok 0#64)) ∧
  (∀ (s : State) (a : BitVec 12) (d : BitVec 32), Memory.wf s.engine → step (sent s (pack 2#4 a d)) =
    .next (if a ≠ 0#12 then answered s s.engine .illegalField 0#64
      else if s.engine.mode ≠ .unconf then answered s s.engine .illegalMode 0#64
      else if s.engine.coef.length = 3 then answered s s.engine .overfill 0#64
      else answered s { s.engine with coef := s.engine.coef ++ [d] } .ok 0#64))

/-- `LDT v` (44_config_commands.md R172): the checks in order, then one table entry appended, nothing else changed. -/
def Obligations.LdtCommand : Prop :=
  (∀ (s : State) (v : Int), s.engine.mode = .unconf → s.engine.tbl.length < 2048 →
    exec (.ldt v) s =
      .next (answered s { s.engine with tbl := s.engine.tbl ++ [BitVec.ofInt 16 v] } .ok 0#64)) ∧
  (∀ (s : State) (a : BitVec 12) (d : BitVec 32), Memory.wf s.engine → step (sent s (pack 3#4 a d)) =
    .next (if a ≠ 0#12 ∨ 65536 ≤ d.toNat then answered s s.engine .illegalField 0#64
      else if s.engine.mode ≠ .unconf then answered s s.engine .illegalMode 0#64
      else if s.engine.tbl.length = 2048 then answered s s.engine .overfill 0#64
      else answered s { s.engine with tbl := s.engine.tbl ++ [BitVec.ofNat 16 d.toNat] } .ok 0#64))

/-- `RDREG r` (44_config_commands.md R173; 10_state.md R35 to R44): at every address, the pattern of the register map, or
`BAD_ADDR`; the engine is unchanged. -/
def Obligations.RdregCommand : Prop :=
  (∀ (s : State) (r : Nat) (v : RegWord), Memory.wf s.engine → registerWord s.engine r = some v →
    exec (.rdreg r) s = .next (answered s s.engine .ok (0#32 ++ v))) ∧
  (∀ (s : State) (r : Nat), Memory.wf s.engine → registerWord s.engine r = none →
    exec (.rdreg r) s = .next (answered s s.engine .badAddr 0#64)) ∧
  (∀ (s : State) (a : BitVec 12) (d : BitVec 32), Memory.wf s.engine → step (sent s (pack 4#4 a d)) =
    .next (if d ≠ 0#32 then answered s s.engine .illegalField 0#64
      else match registerWord s.engine a.toNat with
        | none => answered s s.engine .badAddr 0#64
        | some v => answered s s.engine .ok (0#32 ++ v)))

/-- `RDT k` (44_config_commands.md R174): the entry sign-extended to 32 bits, or `BAD_ADDR`; the engine is unchanged. -/
def Obligations.RdtCommand : Prop :=
  (∀ (s : State) (k : Nat) (v : Sample), s.engine.tbl[k]? = some v →
    exec (.rdt k) s = .next (answered s s.engine .ok (0#32 ++ v.signExtend 32))) ∧
  (∀ (s : State) (a : BitVec 12) (d : BitVec 32), step (sent s (pack 5#4 a d)) =
    .next (if d ≠ 0#32 ∨ 2048 ≤ a.toNat then answered s s.engine .illegalField 0#64
      else match s.engine.tbl[a.toNat]? with
        | none => answered s s.engine .badAddr 0#64
        | some v => answered s s.engine .ok (0#32 ++ v.signExtend 32)))

/-- `INIT det` (44_config_commands.md R175, R176): the checks in order, then the validation in its order; on success the
detector, the mode and a cleared loop state, on failure the mode and the cause only. -/
def Obligations.InitCommand : Prop :=
  (∀ (s : State) (det : Detector), s.engine.mode = .unconf → cause s.engine = .none →
    exec (.init det) s =
      .next (answered s { freshLoop det s.engine.coef s.engine.tbl with cfgerr := s.engine.cfgerr } .ok 0#64)) ∧
  (∀ (s : State) (a : BitVec 12) (d : BitVec 32), step (sent s (pack 6#4 a d)) =
    .next (if a ≠ 0#12 ∨ 2 ≤ d.toNat then answered s s.engine .illegalField 0#64
      else if s.engine.mode ≠ .unconf then answered s s.engine .illegalMode 0#64
      else if cause s.engine = .none then
        answered s { freshLoop (if d = 0#32 then .rational else .cordic) s.engine.coef s.engine.tbl with
          cfgerr := s.engine.cfgerr } .ok 0#64
      else answered s { s.engine with mode := .failed, cfgerr := cause s.engine } .cfgError 0#64))

/-- `RESET` (44_config_commands.md R177): the checks in order, then the seven elements of the loop state become zero. -/
def Obligations.ResetCommand : Prop :=
  (∀ s : State, s.engine.mode = .ready →
    exec .reset s = .next (answered s { s.engine with phase := 0#32, x1 := 0#32, x2 := 0#32, y1 := 0#29, y2 := 0#29,
                                                      qerr := 0#16, mag := 0#32 } .ok 0#64)) ∧
  (∀ (s : State) (a : BitVec 12) (d : BitVec 32), step (sent s (pack 7#4 a d)) =
    .next (if a ≠ 0#12 ∨ d ≠ 0#32 then answered s s.engine .illegalField 0#64
      else if s.engine.mode ≠ .ready then answered s s.engine .illegalMode 0#64
      else answered s { s.engine with phase := 0#32, x1 := 0#32, x2 := 0#32, y1 := 0#29, y2 := 0#29, qerr := 0#16,
                                      mag := 0#32 } .ok 0#64))

/-- `PROC i, q` (43_process.md R155): the checks in order, then the six steps, in every state that can run a sample. -/
def Obligations.ProcCommand : Prop :=
  (∀ (s : State) (i q : Int), s.engine.ReadyToSample → ∃ t : State, exec (.proc i q) s = .next t ∧ ProcEffect s i q t) ∧
  (∀ (s : State) (a : BitVec 12) (d : BitVec 32),
    (a ≠ 0#12 → step (sent s (pack 1#4 a d)) = .next (answered s s.engine .illegalField 0#64)) ∧
    (a = 0#12 → s.engine.mode ≠ .ready → step (sent s (pack 1#4 a d)) = .next (answered s s.engine .illegalMode 0#64)) ∧
    (a = 0#12 → s.engine.ReadyToSample → ∃ t : State, step (sent s (pack 1#4 a d)) = .next t ∧
      ProcEffect s (BitVec.ofNat 16 d.toNat).toInt (BitVec.ofNat 16 (d.toNat / 65536)).toInt t))

/-- THE MODEL'S CHOICE (log 5), for states that no run from reset reaches: a `PROC` in `READY` that meets a table entry or a
coefficient which nothing has written stops with the fault of that name, for such storage has no value (20_memory.md R64). -/
def Obligations.ProcStopsOnUnwrittenStorage : Prop :=
  ∀ (s : State) (i q : Int), s.engine.mode = .ready →
    (s.engine.tbl.length ≤ phaseIndex s.engine.phase.toInt ∨
      s.engine.tbl.length ≤ (phaseIndex s.engine.phase.toInt + 512) % 2048 →
      exec (.proc i q) s = .fault .unwrittenTableEntry) ∧
    (phaseIndex s.engine.phase.toInt < s.engine.tbl.length →
      (phaseIndex s.engine.phase.toInt + 512) % 2048 < s.engine.tbl.length →
      s.engine.coef.length = 0 ∨ 3 < s.engine.coef.length →
      exec (.proc i q) s = .fault .unwrittenCoefficient)

/-! ## What a command leaves unchanged -/

/-- `LDT` writes the entry at `TBL_FILL` and no other; no other command writes the table (44_config_commands.md R172;
20_memory.md R50). -/
def Obligations.TableWrittenOnlyByLdt : Prop :=
  (∀ (s : State) (v : Int), FitsSample v → s.engine.mode = .unconf → s.engine.tbl.length < 2048 →
    ∃ t : State, exec (.ldt v) s = .next t ∧ t.engine.tblFill = s.engine.tblFill + 1 ∧
      ∀ k : Nat, t.engine.tblAt k = if k = s.engine.tblFill then some v else s.engine.tblAt k) ∧
  (∀ (i : Instr) (s t : State), i.mnemonic ≠ .ldt → exec i s = .next t →
    t.engine.tblFill = s.engine.tblFill ∧ ∀ k : Nat, t.engine.tblAt k = s.engine.tblAt k)

/-- `LDC` writes the coefficient at `COEF_FILL` and no other; no other command writes the coefficient store
(44_config_commands.md R171; 20_memory.md R50). -/
def Obligations.CoefficientsWrittenOnlyByLdc : Prop :=
  (∀ (s : State) (v : Int), FitsWord v → s.engine.mode = .unconf → s.engine.coef.length < 3 →
    ∃ t : State, exec (.ldc v) s = .next t ∧ t.engine.coefFill = s.engine.coefFill + 1 ∧
      ∀ j : Nat, t.engine.coefAt j = if j = s.engine.coefFill then some v else s.engine.coefAt j) ∧
  (∀ (i : Instr) (s t : State), i.mnemonic ≠ .ldc → exec i s = .next t →
    t.engine.coefFill = s.engine.coefFill ∧ ∀ j : Nat, t.engine.coefAt j = s.engine.coefAt j)

/-- A read, and a `NOP`, has no side effect, so a read repeated returns the same response (20_memory.md R53). -/
def Obligations.ReadsHaveNoSideEffect : Prop :=
  ∀ (i : Instr) (s : State), i.mnemonic = .rdreg ∨ i.mnemonic = .rdt ∨ i.mnemonic = .nop →
    ∃ r : Response, exec i s = .next (answered s s.engine r.status r.data) ∧
      exec i (answered s s.engine r.status r.data) =
        .next { s with responses := s.responses ++ [r, r] }

/-- Every status but `OK` and `CFG_ERROR` leaves the engine exactly as it was, and `CFG_ERROR` changes `MODE` and `CFGERR`
only; the status is that of the command's own response (60_exceptions.md R198). -/
def Obligations.ErrorsLeaveTheStateUnchanged : Prop :=
  ∀ (s : State) (w : CmdWord) (t : State), step (sent s w) = .next t →
    ∃ r : Response, t.responses = s.responses ++ [r] ∧
      (r.status ≠ .ok → r.status ≠ .cfgError → t.engine = s.engine) ∧
      (r.status = .cfgError → t.engine = { s.engine with mode := t.engine.mode, cfgerr := t.engine.cfgerr })

/-! ## Modes -/

/-- A well-formed command not legal in the mode is answered `ILLEGAL_MODE` with the state unchanged; a legal one never is
(60_exceptions.md R193, R201). -/
def Obligations.CommandLegalityByMode : Prop :=
  ∀ (i : Instr) (s : State),
    (legal i.mnemonic s.engine.mode = false → exec i s = .next (answered s s.engine .illegalMode 0#64)) ∧
    (legal i.mnemonic s.engine.mode = true →
      ∀ (t : State) (r : Response), exec i s = .next t → t.responses = s.responses ++ [r] → r.status ≠ .illegalMode)

/-- The mode changes only by hardware reset, to `UNCONF`, and by `INIT`, from `UNCONF` to `READY` or to `FAILED`
(10_state.md R21; 60_exceptions.md R201). -/
def Obligations.ModeChangesOnlyByInitAndReset : Prop :=
  ∀ (s t : State), step s = .next t → t.engine.mode ≠ s.engine.mode →
    (∃ rest, s.pending = .hardwareReset :: rest ∧ t.engine.mode = .unconf) ∨
    (∃ w rest, s.pending = .abandoned w :: rest ∧ t.engine.mode = .unconf) ∨
    (∃ w det rest, s.pending = .command w :: rest ∧ decode w = .command (.init det) ∧ s.engine.mode = .unconf ∧
      (t.engine.mode = .ready ∨ t.engine.mode = .failed))

/-- In `FAILED` no command changes the engine at all: `NOP`, `RDREG` and `RDT` still answer, the cause can be read, and
every other well-formed command is answered `ILLEGAL_MODE`; a hardware reset leaves the mode (60_exceptions.md R199). -/
def Obligations.FailedIsLeftOnlyByHardwareReset : Prop :=
  (∀ (s : State) (w : CmdWord), s.engine.mode = .failed →
    ∃ r : Response, step (sent s w) = .next (answered s s.engine r.status r.data) ∧
      (∀ i : Instr, decode w = .command i →
        (r.status = .illegalMode ↔ i.mnemonic ≠ .nop ∧ i.mnemonic ≠ .rdreg ∧ i.mnemonic ≠ .rdt))) ∧
  (∀ s : State, s.engine.mode = .failed →
    exec .nop s = .next (answered s s.engine .ok 0#64) ∧
    exec (.rdreg 0x000) s = .next (answered s s.engine .ok
      (BitVec.ofNat 64 (2 + 16 * causeNumber s.engine.cfgerr + 256 * detNumber s.engine.det)))) ∧
  (∀ (s : State) (rest : List HostInput), s.engine.mode = .failed → s.pending = .hardwareReset :: rest →
    ∃ t : State, step s = .next t ∧ t.engine.mode = .unconf)

/-- After a successful `INIT` no sequence of commands, however long, changes the mode, the detector, the coefficients or
the table: only a hardware reset does (70_reset_and_hazards.md R214). -/
def Obligations.ConfigurationIsFrozenInReady : Prop :=
  ∀ (k : Nat) (s t : State), s.engine.mode = .ready → (∀ x ∈ s.pending, isCommand x = true) →
    Host.Core.run Sys2Proof.core k s = .next t →
    t.engine.mode = .ready ∧ t.engine.det = s.engine.det ∧ t.engine.coef = s.engine.coef ∧ t.engine.tbl = s.engine.tbl

/-! ## The invariant -/

/-- The state after reset has the invariant. -/
def Obligations.ResetStateHasInvariant : Prop := Sys2Proof.Machine.State.reset.Inv

/-- Every step keeps the invariant: the phase stays in (-π, π], `X1` and `X2` in range, the stores within their sizes,
`CFGERR` in agreement with the mode, the configuration valid in `READY`, the loop state zero outside it (10_state.md R34). -/
def Obligations.StepKeepsInvariant : Prop :=
  ∀ s t : State, s.Inv → Sys2Proof.Machine.step s = .next t → t.Inv

/-- From a state of the invariant no step faults or is refused: every input has its outcome (30_encoding.md R79;
60_exceptions.md R202). -/
def Obligations.StepNeverStops : Prop := ∀ s : State, s.Inv → Completes (Sys2Proof.Machine.step s)

/-- In `READY` a well-formed `PROC` answers `OK`, for every operand pair and every state of the invariant, and keeps the
invariant (60_exceptions.md R202). -/
def Obligations.ProcIsTotalInReady : Prop :=
  ∀ (s : State) (i q : Int), s.Inv → s.engine.mode = .ready → (Instr.proc i q).WellFormed →
    ∃ (t : State) (r : Response), exec (.proc i q) s = .next t ∧ t.responses = s.responses ++ [r] ∧ r.status = .ok ∧ t.Inv

/-- Whatever finite sequence of words and resets the host sends after reset, every input is carried out, every command
that is not abandoned is answered once, and the final state has the invariant (70_reset_and_hazards.md R219, R220). That a
hardware reset keeps the responses counted so far is the model's choice (log 2), and that an abandoned command is an input
of its own is too (log 9). -/
def Obligations.EveryHostSequenceIsCarriedOut : Prop :=
  ∀ l : List HostInput, ∃ t : State,
    Host.Core.run Sys2Proof.core l.length { State.reset with pending := l } = .next t ∧
      t.pending = [] ∧ t.responses.length = (l.filter isCommand).length ∧ t.Inv

/-- Bring-up (70_reset_and_hazards.md R212): a hardware reset, one to three `LDC` with coefficients in range and 2048
`LDT`, interleaved in any order, then `INIT`, leave the engine in `READY` with exactly that configuration and a cleared loop
state, every command having been answered `OK`. That the responses given before survive the hardware reset is the model's
choice (log 2). -/
def Obligations.BringUpConfiguresTheEngine : Prop :=
  ∀ (s : State) (loads : List Instr) (det : Detector) (rest : List HostInput),
    (∀ i ∈ loads, isLoad i = true ∧ i.WellFormed) →
    1 ≤ (coefficientsOf loads).length → (coefficientsOf loads).length ≤ 3 →
    (∀ c ∈ coefficientsOf loads, -131072 ≤ c ∧ c ≤ 131071) →
    (entriesOf loads).length = 2048 →
    Host.Core.run Sys2Proof.core (loads.length + 2)
      { s with pending := .hardwareReset :: (loads ++ [Instr.init det]).map (fun i => .command (encode i)) ++ rest } =
      .next { engine := freshLoop det ((coefficientsOf loads).map (BitVec.ofInt 32)) ((entriesOf loads).map (BitVec.ofInt 16)),
              pending := rest,
              responses := s.responses ++ List.replicate (loads.length + 1) ⟨.ok, 0#64⟩ }

/-- After a successful `INIT` and after `RESET` the loop state is that of a hardware reset, so the engine is the same as
freshly configured (10_state.md R46). -/
def Obligations.ResetEqualsFreshConfiguration : Prop :=
  ∀ s : State, s.Inv →
    (s.engine.mode = .ready →
      exec .reset s = .next (answered s (freshLoop s.engine.det s.engine.coef s.engine.tbl) .ok 0#64)) ∧
    (∀ det : Detector, s.engine.mode = .unconf → cause s.engine = .none →
      exec (.init det) s = .next (answered s (freshLoop det s.engine.coef s.engine.tbl) .ok 0#64))

/-! ## The per-sample operation -/

/-- The response of a `PROC` carries the pair looked up from the phase before the command changed it, whatever the sample
is, and the scaled error, which `X1` then holds (43_process.md R156). -/
def Obligations.ResponseCarriesThePairBeforeTheUpdate : Prop :=
  ∀ (s t : State) (i q : Int) (r : Response), exec (.proc i q) s = .next t → t.responses = s.responses ++ [r] →
    r.status = .ok →
    some (RspData.lockedI r.data) = s.engine.oscI s.engine.phase.toInt ∧
    some (RspData.lockedQ r.data) = s.engine.oscQ s.engine.phase.toInt ∧
    RspData.phaseError r.data = t.engine.x1.toInt

/-- The first `PROC` after the loop state was cleared mixes with, and answers, the pair of phase 0: table entries 512 and
0 (43_process.md R157; 40_sine_table_nco.md R101, R102). -/
def Obligations.FirstSampleUsesPhaseZero : Prop :=
  ∀ (s t : State) (i q : Int) (oi oq : Sample), s.engine.ReadyToSample → s.engine.phase = 0#32 →
    s.engine.tbl[512]? = some oi → s.engine.tbl[0]? = some oq → exec (.proc i q) s = .next t →
    ∃ err : BitVec 32, t.responses = s.responses ++ [⟨.ok, err ++ oq ++ oi⟩]

/-- A zero sample gives a zero error, and with CORDIC a zero magnitude, in every state that can run a sample
(43_process.md R161; 41_phase_detector.md R111). -/
def Obligations.ZeroSampleGivesZeroError : Prop :=
  ∀ s : State, s.engine.ReadyToSample →
    ∃ (t : State) (r : Response), exec (.proc 0 0) s = .next t ∧ t.responses = s.responses ++ [r] ∧ r.status = .ok ∧
      RspData.phaseError r.data = 0 ∧ t.engine.x1 = 0#32 ∧ (s.engine.det = .cordic → t.engine.mag = 0#32) ∧
      t.engine.x2 = s.engine.x1 ∧ t.engine.y2 = s.engine.y1 ∧
      t.engine.y1.toInt = y0 s.engine 0 ∧ (∀ oi oq : Int, mix 0 0 oi oq = (0, 0))

/-- From the cleared loop state, zero samples leave the engine exactly as it is, for every coefficient set, every table
and any number of repetitions (42_loop_filter.md R139). -/
def Obligations.ZeroInputLeavesClearedLoop : Prop :=
  ∀ (k : Nat) (s : State), s.engine.ReadyToSample → s.engine.clear = s.engine →
    s.pending = List.replicate k (.command (encode (.proc 0 0))) →
    ∃ t : State, Host.Core.run Sys2Proof.core k s = .next t ∧ t.engine = s.engine ∧ t.pending = []

/-- The delay line shifts the same way for every number of taps, and `Y1` receives the clamped correction, the one that
moved the phase (42_loop_filter.md R137; 43_process.md R154). -/
def Obligations.ProcShiftsTheDelayLine : Prop :=
  ∀ (s t : State) (i q : Int), s.engine.ReadyToSample → exec (.proc i q) s = .next t →
    t.engine.x2 = s.engine.x1 ∧ t.engine.y2 = s.engine.y1 ∧
    t.engine.phase.toInt = wrapPhase (s.engine.phase.toInt + t.engine.y1.toInt)

/-! ## The oscillator -/

/-- The table index of a phase is the nearest table step, a half step rounding toward plus infinity, modulo the table
(40_sine_table_nco.md R100). -/
def Obligations.PhaseIndexIsNearestStep : Prop :=
  (∀ p : Int, phaseIndex p < 2048 ∧ (phaseIndex p : Int) = (p + 131072) / 262144 % 2048 ∧
    (∃ m : Int, -131072 ≤ p - ((phaseIndex p : Int) * 262144 + m * 536870912) ∧
      p - ((phaseIndex p : Int) * 262144 + m * 536870912) < 131072)) ∧
  phaseIndex 0 = 0 ∧ phaseIndex 131071 = 0 ∧ phaseIndex 131072 = 1 ∧ phaseIndex (-131072) = 0 ∧
  phaseIndex (-131073) = 2047 ∧ phaseIndex 268435456 = 1024 ∧ phaseIndex (-268435455) = 1024 ∧
  phaseIndex (-9826304) = 2011

/-- The wrap takes every reachable sum of a phase and a correction into (-π, π], moving it by at most one cycle
(43_process.md R154, R159). -/
def Obligations.WrapReturnsToTheRange : Prop :=
  ∀ (p y : Int), -268435456 < p → p ≤ 268435456 → -268435456 ≤ y → y ≤ 268435455 →
    -268435456 < wrapPhase (p + y) ∧ wrapPhase (p + y) ≤ 268435456 ∧
    (268435456 < p + y → wrapPhase (p + y) = p + y - 536870912 ∧ wrapPhase (p + y) ≤ -1) ∧
    (p + y ≤ -268435456 → wrapPhase (p + y) = p + y + 536870912 ∧ 1 ≤ wrapPhase (p + y)) ∧
    (-268435456 < p + y → p + y ≤ 268435456 → wrapPhase (p + y) = p + y)

/-! ## The mixer and the detectors -/

/-- The residual fits the sample width; where the floored product fits it, the residual is that product, and otherwise the
nearer bound (43_process.md R151). -/
def Obligations.MixerSaturatesTheResidual : Prop :=
  ∀ i q oi oq : Int,
    FitsSample (mix i q oi oq).1 ∧ FitsSample (mix i q oi oq).2 ∧
    (FitsSample ((i * oi + q * oq) / 32768) → (mix i q oi oq).1 = (i * oi + q * oq) / 32768) ∧
    ((i * oi + q * oq) / 32768 > 32767 → (mix i q oi oq).1 = 32767) ∧
    ((i * oi + q * oq) / 32768 < -32768 → (mix i q oi oq).1 = -32768) ∧
    (FitsSample ((q * oi - i * oq) / 32768) → (mix i q oi oq).2 = (q * oi - i * oq) / 32768) ∧
    ((q * oi - i * oq) / 32768 > 32767 → (mix i q oi oq).2 = 32767) ∧
    ((q * oi - i * oq) / 32768 < -32768 → (mix i q oi oq).2 = -32768)

/-- The degenerate input: whichever detector is selected, `detect(0, 0) = 0`, and with CORDIC the magnitude becomes 0; with
the rational detector nothing is written (41_phase_detector.md R111). -/
def Obligations.DegenerateInputGivesZero : Prop :=
  ∀ e : Engine, (e.detect 0 0).1 = 0 ∧
    (e.det = .cordic → (e.detect 0 0).2 = { e with mag := 0#32 }) ∧ (e.det = .rational → (e.detect 0 0).2 = e)

/-- The rational detector for `q >= 0`: the divisor is positive, the quotient rounds toward zero and stays within a
quarter, the angle within half a turn (41_phase_detector.md R112). -/
def Obligations.RationalDetectorUpperHalf : Prop :=
  (∀ i q : Int, ¬ (i = 0 ∧ q = 0) → 0 ≤ q →
    1 ≤ q + |i| ∧
    -8192 ≤ Int.tdiv ((q - |i|) * 8192) (q + |i|) ∧ Int.tdiv ((q - |i|) * 8192) (q + |i|) ≤ 8192 ∧
    detectRational i q =
      (if i < 0 then -(8192 - Int.tdiv ((q - |i|) * 8192) (q + |i|)) else 8192 - Int.tdiv ((q - |i|) * 8192) (q + |i|)) ∧
    |detectRational i q| ≤ 16384) ∧
  detectRational 3 4 = 7022

/-- The rational detector for `q < 0`: the divisor is positive, the quotient rounds toward zero, the angle lies between a
quarter turn and a half turn from the axis (41_phase_detector.md R113). -/
def Obligations.RationalDetectorLowerHalf : Prop :=
  (∀ i q : Int, q < 0 →
    1 ≤ |i| - q ∧
    -8192 ≤ Int.tdiv ((q + |i|) * 8192) (|i| - q) ∧ Int.tdiv ((q + |i|) * 8192) (|i| - q) ≤ 8192 ∧
    detectRational i q =
      (if i < 0 then -(24576 - Int.tdiv ((q + |i|) * 8192) (|i| - q))
        else 24576 - Int.tdiv ((q + |i|) * 8192) (|i| - q)) ∧
    16384 ≤ |detectRational i q| ∧ |detectRational i q| ≤ 32768) ∧
  detectRational 1 (-3) = 28672

/-- The rational detector's output lies in [-32767, 32768]; 32768 occurs only for `i = 0`, `q < 0`; the detector is odd in
`i` (41_phase_detector.md R125). -/
def Obligations.RationalDetectorRange : Prop :=
  ∀ i q : Int,
    -32767 ≤ detectRational i q ∧ detectRational i q ≤ 32768 ∧
    (detectRational i q = 32768 ↔ i = 0 ∧ q < 0) ∧
    (i ≠ 0 → detectRational (-i) q = -detectRational i q)

/-- The CORDIC detector's output lies in (-π, π]; for a non-zero input it is never closer to zero than 171
(41_phase_detector.md R110, R121, R122). -/
def Obligations.CordicDetectorRange : Prop :=
  ∀ i q : Int, -32768 < (detectCordic i q).1 ∧ (detectCordic i q).1 ≤ 32768 ∧
    (¬ (i = 0 ∧ q = 0) → 171 ≤ |(detectCordic i q).1|)

/-- The CORDIC detector is the six shift-and-add steps of the spec, wrapped once, with the magnitude scaled by the gain
(41_phase_detector.md R115 to R118, R121, R122); the worked example of R122 comes out. -/
def Obligations.CordicDetectorIsTheSixSteps : Prop :=
  (∀ i q : Int, ¬ (i = 0 ∧ q = 0) →
    let v := [0, 1, 2, 3, 4, 5].foldl cordicStep (cordicStart i q)
    0 ≤ (cordicStart i q).1 ∧
    (detectCordic i q).1 = (if 32768 < v.2.2 then v.2.2 - 65536 else if v.2.2 ≤ -32768 then v.2.2 + 65536 else v.2.2) ∧
    (detectCordic i q).2 = v.1 * 19902 / 32768) ∧
  detectCordic 20000 10000 = (4939, 22359)

/-- Inside the rotator, for a residual of the sample width and after any number of iterations, the working vector fits
`SW + 2` bits and its first component is not negative; the accumulated angle is at most 34241 (41_phase_detector.md R119). -/
def Obligations.RotatorStaysWithinItsWidths : Prop :=
  ∀ (i q : Int) (n : Nat), FitsSample i → FitsSample q →
    let r := rotateAll 0 (Config.ATAN.take n) (preRotate i q)
    0 ≤ r.x ∧ r.x < 131072 ∧ -131072 ≤ r.y ∧ r.y < 131072 ∧ |r.ang| ≤ 34241

/-- The magnitude of the CORDIC detector is not negative and fits the `MAG` register, so the register holds it exactly
(10_state.md R31; 41_phase_detector.md R118, R120). -/
def Obligations.MagnitudeFitsItsRegister : Prop :=
  ∀ i q : Int, FitsSample i → FitsSample q →
    0 ≤ (detectCordic i q).2 ∧ (detectCordic i q).2 < 65536 ∧
    ∀ e : Engine, ((e.setMag (detectCordic i q).2).mag.toNat : Int) = (detectCordic i q).2

/-- The saturation of the scaled error never acts: for every raw angle of either detector the error is the exact product
(41_phase_detector.md R123; 60_exceptions.md R207). -/
def Obligations.ScaledErrorIsExact : Prop :=
  ∀ i q : Int, FitsSample i → FitsSample q →
    scaleError (detectRational i q) = detectRational i q * 8192 ∧
    scaleError (detectCordic i q).1 = (detectCordic i q).1 * 8192 ∧
    |scaleError (detectRational i q)| ≤ 268435456 ∧ |scaleError (detectCordic i q).1| ≤ 268435456

/-! ## The loop filter -/

/-- Quotient and remainder: the remainder is never negative and nothing is lost, also when the sum is negative
(42_loop_filter.md R133). -/
def Obligations.RemainderIsNeverNegative : Prop :=
  (∀ y : Int, y = asr y 16 * 65536 + remainder y ∧ 0 ≤ remainder y ∧ remainder y < 65536 ∧
    remainder y = y % 65536) ∧
  asr (-1) 16 = -1 ∧ remainder (-1) = 65535

/-- In every state of the invariant that is `READY`, and for every error a detector can give, the saturation of the
feed-forward sum does not act (42_loop_filter.md R132). -/
def Obligations.FeedForwardSumNeverSaturates : Prop :=
  ∀ (e : Engine) (t : Taps) (err : Int), e.Inv → e.mode = .ready → e.taps = some t → -268435456 ≤ err → err ≤ 268435456 →
    e.yRaw t err = feedForward t err e.x1.toInt e.x2.toInt e.qerr.toNat ∧ |e.yRaw t err| < 2 ^ 47

/-- The sum of the shifted outputs loses nothing: what the filter passes on together with the remainder it keeps is the
exact feed-forward sum, and the next call adds that remainder in (42_loop_filter.md R134). -/
def Obligations.RemainderIsFedForward : Prop :=
  ∀ (s t : State) (i q : Int), s.Inv → s.engine.mode = .ready → exec (.proc i q) s = .next t →
    acc s.engine t.engine.x1.toInt =
      acc s.engine t.engine.x1.toInt / 65536 * 65536 + (t.engine.qerr.toNat : Int) ∧
    t.engine.y1.toInt = y0 s.engine t.engine.x1.toInt

/-! ## Constants -/

/-- The reference parameters are consistent (00_scope.md R7), and the derived constants are what R6 says they are. -/
def Obligations.ReferenceParametersAreConsistent : Prop :=
  Config.reference.Consistent ∧
  Config.N = 2 ^ Config.LOGN ∧ Config.QT = 2 ^ Config.K ∧ Config.RAW_PI = 2 ^ (Config.K + 2) ∧
  Config.PHASE_PI = 2 ^ Config.PF ∧ Config.CYCLE = 2 ^ (Config.PF + 1) ∧
  Config.Y_MAX = 2 ^ (Config.YW - 1) - 1 ∧ Config.Y_MIN = -2 ^ (Config.YW - 1) ∧
  Config.STEP_SHIFT = Config.PF + 1 - Config.LOGN ∧ Config.ATAN.length = Config.ITERS ∧ Config.ATAN.sum = 17857
end

