-- ==== Sys2Proof/Laws/Arith.lean ====
section
/-! SUPPORT. The arithmetic primitives in the terms that `omega` and `simp` know, and when a value survives being stored
in a register. -/

namespace Sys2Proof

/-! The parameters as numerals (00_scope.md R6), for `simp` and `omega`. -/

@[simp] theorem Config.SW_eq : Config.SW = 16 := rfl
@[simp] theorem Config.SF_eq : Config.SF = 15 := rfl
@[simp] theorem Config.LOGN_eq : Config.LOGN = 11 := rfl
@[simp] theorem Config.N_eq : Config.N = 2048 := rfl
@[simp] theorem Config.K_eq : Config.K = 13 := rfl
@[simp] theorem Config.QT_eq : Config.QT = 8192 := rfl
@[simp] theorem Config.RAW_PI_eq : Config.RAW_PI = 32768 := rfl
@[simp] theorem Config.ITERS_eq : Config.ITERS = 6 := rfl
@[simp] theorem Config.PF_eq : Config.PF = 28 := rfl
@[simp] theorem Config.PHASE_PI_eq : Config.PHASE_PI = 268435456 := rfl
@[simp] theorem Config.CYCLE_eq : Config.CYCLE = 536870912 := rfl
@[simp] theorem Config.PW_eq : Config.PW = 32 := rfl
@[simp] theorem Config.ERR_SCALE_eq : Config.ERR_SCALE = 8192 := rfl
@[simp] theorem Config.EW_eq : Config.EW = 32 := rfl
@[simp] theorem Config.CW_eq : Config.CW = 18 := rfl
@[simp] theorem Config.FF_eq : Config.FF = 16 := rfl
@[simp] theorem Config.AW_eq : Config.AW = 48 := rfl
@[simp] theorem Config.YW_eq : Config.YW = 29 := rfl
@[simp] theorem Config.Y_MAX_eq : Config.Y_MAX = 268435455 := rfl
@[simp] theorem Config.Y_MIN_eq : Config.Y_MIN = -268435456 := rfl
@[simp] theorem Config.STEP_SHIFT_eq : Config.STEP_SHIFT = 18 := rfl
@[simp] theorem Config.MAX_TAPS_eq : Config.MAX_TAPS = 3 := rfl
@[simp] theorem Config.CGAIN_eq : Config.CGAIN = 19902 := rfl
@[simp] theorem Config.CGAIN_FRAC_eq : Config.CGAIN_FRAC = 15 := rfl

end Sys2Proof

namespace Sys2Proof.Machine

@[simp] theorem pow2_0 : pow2 0 = 1 := rfl
@[simp] theorem pow2_1 : pow2 1 = 2 := rfl
@[simp] theorem pow2_2 : pow2 2 = 4 := rfl
@[simp] theorem pow2_3 : pow2 3 = 8 := rfl
@[simp] theorem pow2_4 : pow2 4 = 16 := rfl
@[simp] theorem pow2_5 : pow2 5 = 32 := rfl
@[simp] theorem pow2_13 : pow2 13 = 8192 := rfl
@[simp] theorem pow2_15 : pow2 15 = 32768 := rfl
@[simp] theorem pow2_16 : pow2 16 = 65536 := rfl
@[simp] theorem pow2_17 : pow2 17 = 131072 := rfl
@[simp] theorem pow2_18 : pow2 18 = 262144 := rfl
@[simp] theorem pow2_31 : pow2 31 = 2147483648 := rfl
@[simp] theorem pow2_47 : pow2 47 = 140737488355328 := rfl

theorem clamp_of_mem {v lo hi : Int} (h1 : lo ≤ v) (h2 : v ≤ hi) : clamp v lo hi = v := by
  unfold clamp; split_ifs <;> omega

theorem clamp_of_lt {v lo hi : Int} (h : v < lo) : clamp v lo hi = lo := by
  simp [clamp, h]

theorem clamp_of_gt {v lo hi : Int} (h : lo ≤ hi) (h2 : hi < v) : clamp v lo hi = hi := by
  unfold clamp; split_ifs <;> omega

theorem clamp_bounds {v lo hi : Int} (h : lo ≤ hi) : lo ≤ clamp v lo hi ∧ clamp v lo hi ≤ hi := by
  unfold clamp; split_ifs <;> omega

theorem clamp_eq_max_min {v lo hi : Int} (h : lo ≤ hi) : clamp v lo hi = max lo (min hi v) := by
  unfold clamp; split_ifs <;> omega

theorem sat_bounds (w : Nat) (v : Int) : -pow2 (w - 1) ≤ sat w v ∧ sat w v ≤ pow2 (w - 1) - 1 := by
  refine clamp_bounds ?_
  have : 0 < pow2 (w - 1) := by unfold pow2; positivity
  omega

theorem sat_of_mem {w : Nat} {v : Int} (h1 : -pow2 (w - 1) ≤ v) (h2 : v ≤ pow2 (w - 1) - 1) : sat w v = v :=
  clamp_of_mem h1 h2

/-- `tdiv` is the library's division toward zero (00_scope.md R12). -/
theorem tdiv_eq_tdiv (a b : Int) : tdiv a b = Int.tdiv a b := by
  unfold tdiv
  split_ifs with h
  · exact (Int.tdiv_eq_ediv_of_nonneg h).symm
  · have h' : 0 ≤ -a := by omega
    rw [← Int.tdiv_eq_ediv_of_nonneg h', Int.neg_tdiv, neg_neg]

theorem absInt_eq_abs (v : Int) : absInt v = |v| := by
  unfold absInt
  split_ifs with h
  · exact (abs_of_neg h).symm
  · exact (abs_of_nonneg (not_lt.mp h)).symm

/-- A value of 16 bits survives being stored in a 16-bit word. -/
theorem toInt_ofInt_16 {v : Int} (h1 : -32768 ≤ v) (h2 : v ≤ 32767) : (BitVec.ofInt 16 v).toInt = v := by
  rw [BitVec.toInt_ofInt]; exact Int.bmod_eq_of_le (by norm_num; omega) (by norm_num; omega)

/-- A value of 29 bits survives being stored in `Y1`. -/
theorem toInt_ofInt_29 {v : Int} (h1 : -268435456 ≤ v) (h2 : v ≤ 268435455) : (BitVec.ofInt 29 v).toInt = v := by
  rw [BitVec.toInt_ofInt]; exact Int.bmod_eq_of_le (by norm_num; omega) (by norm_num; omega)

/-- A value of 32 bits survives being stored in a 32-bit register. -/
theorem toInt_ofInt_32 {v : Int} (h1 : -2147483648 ≤ v) (h2 : v ≤ 2147483647) : (BitVec.ofInt 32 v).toInt = v := by
  rw [BitVec.toInt_ofInt]; exact Int.bmod_eq_of_le (by norm_num; omega) (by norm_num; omega)

/-- A remainder of 16 bits survives being stored in `QERR`. -/
theorem toNat_ofInt_16 {v : Int} (h1 : 0 ≤ v) (h2 : v < 65536) : ((BitVec.ofInt 16 v).toNat : Int) = v := by
  rw [BitVec.toNat_ofInt]; norm_num; omega

/-- A magnitude of 32 bits survives being stored in `MAG`. -/
theorem toNat_ofInt_32 {v : Int} (h1 : 0 ≤ v) (h2 : v < 4294967296) : ((BitVec.ofInt 32 v).toNat : Int) = v := by
  rw [BitVec.toNat_ofInt]; norm_num; omega

theorem coefInRange_iff (c : Int) : CoefInRange c ↔ -131072 ≤ c ∧ c ≤ 131071 := by
  simp only [CoefInRange, Config.CW, show (18 : Nat) - 1 = 17 from rfl, pow2_17]; omega

end Sys2Proof.Machine
end

