-- ==== Sys2Proof/Laws/Encoding.lean ====
section
/-! SUPPORT. The three fields of a command word (30_encoding.md R73) come back from `pack`, every word is packed from its
fields, and the fields of a response's data (R74) come back from the packing of `PROC` and of the reads. -/

namespace Sys2Proof

/-- The low part of two bit vectors put together. -/
theorem extract_append_low {m n : Nat} (x : BitVec m) (y : BitVec n) : (x ++ y).extractLsb' 0 n = y := by
  apply BitVec.eq_of_getLsbD_eq
  intro i hi
  simp [BitVec.getLsbD_append, hi]

/-- A part of two bit vectors put together that lies in the high one. -/
theorem extract_append_high {m n : Nat} (x : BitVec m) (y : BitVec n) (k l : Nat) :
    (x ++ y).extractLsb' (n + k) l = x.extractLsb' k l := by
  apply BitVec.eq_of_getLsbD_eq
  intro i hi
  simp only [BitVec.getLsbD_extractLsb', BitVec.getLsbD_append, hi, decide_true, Bool.true_and]
  rw [if_neg (by omega), show n + k + i - n = k + i by omega]

/-- The whole of a bit vector. -/
theorem extract_all {n : Nat} (x : BitVec n) : x.extractLsb' 0 n = x := by
  apply BitVec.eq_of_getLsbD_eq
  intro i hi
  simp [hi]

/-- A part of two bit vectors put together that lies in the low one. -/
theorem extract_append_within {m n : Nat} (x : BitVec m) (y : BitVec n) (k l : Nat) (h : k + l ≤ n) :
    (x ++ y).extractLsb' k l = y.extractLsb' k l := by
  apply BitVec.eq_of_getLsbD_eq
  intro i hi
  simp only [BitVec.getLsbD_extractLsb', BitVec.getLsbD_append, hi, decide_true, Bool.true_and]
  rw [if_pos (by omega)]

/-- A bit vector is its high part and its low part put together. -/
theorem append_extract {n : Nat} (m : Nat) (x : BitVec (m + n)) : x.extractLsb' n m ++ x.extractLsb' 0 n = x := by
  apply BitVec.eq_of_getLsbD_eq
  intro i hi
  simp only [BitVec.getLsbD_append, BitVec.getLsbD_extractLsb']
  split_ifs with h
  · simp [h]
  · simp [show n + (i - n) = i by omega, show i - n < m by omega]

@[simp] theorem opField_pack (op : BitVec 4) (a : BitVec 12) (d : BitVec 32) : opField (pack op a d) = op := by
  have h := extract_append_high (op ++ a) d 12 4
  have h' := extract_append_high op a 0 4
  exact h.trans (h'.trans (extract_all op))

@[simp] theorem aField_pack (op : BitVec 4) (a : BitVec 12) (d : BitVec 32) : aField (pack op a d) = a := by
  have h := extract_append_high (op ++ a) d 0 12
  exact h.trans (extract_append_low op a)

@[simp] theorem dField_pack (op : BitVec 4) (a : BitVec 12) (d : BitVec 32) : dField (pack op a d) = d :=
  extract_append_low (op ++ a) d

theorem pack_fields (w : CmdWord) : pack (opField w) (aField w) (dField w) = w := by
  unfold pack opField aField dField
  apply BitVec.eq_of_getLsbD_eq
  intro i hi
  simp only [BitVec.getLsbD_append, BitVec.getLsbD_extractLsb']
  split_ifs with h1 h2
  · simp [h1]
  · simp [h2, show 32 + (i - 32) = i by omega]
  · simp [show 44 + (i - 32 - 12) = i by omega, show i - 32 - 12 < 4 by omega]

@[simp] theorem detectorOfBit_bit (det : Detector) : detectorOfBit det.bit = det := by
  cases det <;> rfl

namespace Machine

@[simp] theorem procData_lockedI (e oq oi : Int) : (procData e oq oi).extractLsb' 0 16 = BitVec.ofInt 16 oi :=
  extract_append_low (BitVec.ofInt 32 e ++ BitVec.ofInt 16 oq) (BitVec.ofInt 16 oi)

@[simp] theorem procData_lockedQ (e oq oi : Int) : (procData e oq oi).extractLsb' 16 16 = BitVec.ofInt 16 oq := by
  have h := extract_append_high (BitVec.ofInt 32 e ++ BitVec.ofInt 16 oq) (BitVec.ofInt 16 oi) 0 16
  exact h.trans (extract_append_low (BitVec.ofInt 32 e) (BitVec.ofInt 16 oq))

@[simp] theorem procData_phaseError (e oq oi : Int) : (procData e oq oi).extractLsb' 32 32 = BitVec.ofInt 32 e := by
  have h := extract_append_high (BitVec.ofInt 32 e ++ BitVec.ofInt 16 oq) (BitVec.ofInt 16 oi) 16 32
  have h' := extract_append_high (BitVec.ofInt 32 e) (BitVec.ofInt 16 oq) 0 32
  exact h.trans (h'.trans (extract_all _))

@[simp] theorem readData_value (v : Int) : (readData v).extractLsb' 0 32 = BitVec.ofInt 32 v :=
  extract_append_low 0#32 (BitVec.ofInt 32 v)

end Machine

end Sys2Proof
end

