-- ==== Sys2Proof/Laws/State.lean ====
section
/-! SUPPORT. What each update of the engine and of the machine does to each field: one lemma per field per update. -/

namespace Sys2Proof.Machine

@[simp] theorem Engine.clear_mode (e : Engine) : e.clear.mode = e.mode := rfl
@[simp] theorem Engine.clear_cfgerr (e : Engine) : e.clear.cfgerr = e.cfgerr := rfl
@[simp] theorem Engine.clear_det (e : Engine) : e.clear.det = e.det := rfl
@[simp] theorem Engine.clear_coef (e : Engine) : e.clear.coef = e.coef := rfl
@[simp] theorem Engine.clear_tbl (e : Engine) : e.clear.tbl = e.tbl := rfl
@[simp] theorem Engine.clear_phase (e : Engine) : e.clear.phase = 0#32 := rfl
@[simp] theorem Engine.clear_x1 (e : Engine) : e.clear.x1 = 0#32 := rfl
@[simp] theorem Engine.clear_x2 (e : Engine) : e.clear.x2 = 0#32 := rfl
@[simp] theorem Engine.clear_y1 (e : Engine) : e.clear.y1 = 0#29 := rfl
@[simp] theorem Engine.clear_y2 (e : Engine) : e.clear.y2 = 0#29 := rfl
@[simp] theorem Engine.clear_qerr (e : Engine) : e.clear.qerr = 0#16 := rfl
@[simp] theorem Engine.clear_mag (e : Engine) : e.clear.mag = 0#32 := rfl

@[simp] theorem Engine.pushCoef_mode (e : Engine) (v : Int) : (e.pushCoef v).mode = e.mode := rfl
@[simp] theorem Engine.pushCoef_cfgerr (e : Engine) (v : Int) : (e.pushCoef v).cfgerr = e.cfgerr := rfl
@[simp] theorem Engine.pushCoef_det (e : Engine) (v : Int) : (e.pushCoef v).det = e.det := rfl
@[simp] theorem Engine.pushCoef_coef (e : Engine) (v : Int) : (e.pushCoef v).coef = e.coef ++ [BitVec.ofInt 32 v] := rfl
@[simp] theorem Engine.pushCoef_tbl (e : Engine) (v : Int) : (e.pushCoef v).tbl = e.tbl := rfl
@[simp] theorem Engine.pushCoef_phase (e : Engine) (v : Int) : (e.pushCoef v).phase = e.phase := rfl
@[simp] theorem Engine.pushCoef_x1 (e : Engine) (v : Int) : (e.pushCoef v).x1 = e.x1 := rfl
@[simp] theorem Engine.pushCoef_x2 (e : Engine) (v : Int) : (e.pushCoef v).x2 = e.x2 := rfl
@[simp] theorem Engine.pushCoef_y1 (e : Engine) (v : Int) : (e.pushCoef v).y1 = e.y1 := rfl
@[simp] theorem Engine.pushCoef_y2 (e : Engine) (v : Int) : (e.pushCoef v).y2 = e.y2 := rfl
@[simp] theorem Engine.pushCoef_qerr (e : Engine) (v : Int) : (e.pushCoef v).qerr = e.qerr := rfl
@[simp] theorem Engine.pushCoef_mag (e : Engine) (v : Int) : (e.pushCoef v).mag = e.mag := rfl

@[simp] theorem Engine.pushTbl_mode (e : Engine) (v : Int) : (e.pushTbl v).mode = e.mode := rfl
@[simp] theorem Engine.pushTbl_cfgerr (e : Engine) (v : Int) : (e.pushTbl v).cfgerr = e.cfgerr := rfl
@[simp] theorem Engine.pushTbl_det (e : Engine) (v : Int) : (e.pushTbl v).det = e.det := rfl
@[simp] theorem Engine.pushTbl_coef (e : Engine) (v : Int) : (e.pushTbl v).coef = e.coef := rfl
@[simp] theorem Engine.pushTbl_tbl (e : Engine) (v : Int) : (e.pushTbl v).tbl = e.tbl ++ [BitVec.ofInt 16 v] := rfl
@[simp] theorem Engine.pushTbl_phase (e : Engine) (v : Int) : (e.pushTbl v).phase = e.phase := rfl
@[simp] theorem Engine.pushTbl_x1 (e : Engine) (v : Int) : (e.pushTbl v).x1 = e.x1 := rfl
@[simp] theorem Engine.pushTbl_x2 (e : Engine) (v : Int) : (e.pushTbl v).x2 = e.x2 := rfl
@[simp] theorem Engine.pushTbl_y1 (e : Engine) (v : Int) : (e.pushTbl v).y1 = e.y1 := rfl
@[simp] theorem Engine.pushTbl_y2 (e : Engine) (v : Int) : (e.pushTbl v).y2 = e.y2 := rfl
@[simp] theorem Engine.pushTbl_qerr (e : Engine) (v : Int) : (e.pushTbl v).qerr = e.qerr := rfl
@[simp] theorem Engine.pushTbl_mag (e : Engine) (v : Int) : (e.pushTbl v).mag = e.mag := rfl

@[simp] theorem Engine.start_mode (e : Engine) (d : Detector) : (e.start d).mode = .ready := rfl
@[simp] theorem Engine.start_cfgerr (e : Engine) (d : Detector) : (e.start d).cfgerr = e.cfgerr := rfl
@[simp] theorem Engine.start_det (e : Engine) (d : Detector) : (e.start d).det = d := rfl
@[simp] theorem Engine.start_coef (e : Engine) (d : Detector) : (e.start d).coef = e.coef := rfl
@[simp] theorem Engine.start_tbl (e : Engine) (d : Detector) : (e.start d).tbl = e.tbl := rfl
@[simp] theorem Engine.start_phase (e : Engine) (d : Detector) : (e.start d).phase = 0#32 := rfl
@[simp] theorem Engine.start_x1 (e : Engine) (d : Detector) : (e.start d).x1 = 0#32 := rfl
@[simp] theorem Engine.start_x2 (e : Engine) (d : Detector) : (e.start d).x2 = 0#32 := rfl
@[simp] theorem Engine.start_y1 (e : Engine) (d : Detector) : (e.start d).y1 = 0#29 := rfl
@[simp] theorem Engine.start_y2 (e : Engine) (d : Detector) : (e.start d).y2 = 0#29 := rfl
@[simp] theorem Engine.start_qerr (e : Engine) (d : Detector) : (e.start d).qerr = 0#16 := rfl
@[simp] theorem Engine.start_mag (e : Engine) (d : Detector) : (e.start d).mag = 0#32 := rfl

@[simp] theorem Engine.fail_mode (e : Engine) (c : CfgErr) : (e.fail c).mode = .failed := rfl
@[simp] theorem Engine.fail_cfgerr (e : Engine) (c : CfgErr) : (e.fail c).cfgerr = c := rfl
@[simp] theorem Engine.fail_det (e : Engine) (c : CfgErr) : (e.fail c).det = e.det := rfl
@[simp] theorem Engine.fail_coef (e : Engine) (c : CfgErr) : (e.fail c).coef = e.coef := rfl
@[simp] theorem Engine.fail_tbl (e : Engine) (c : CfgErr) : (e.fail c).tbl = e.tbl := rfl
@[simp] theorem Engine.fail_phase (e : Engine) (c : CfgErr) : (e.fail c).phase = e.phase := rfl
@[simp] theorem Engine.fail_x1 (e : Engine) (c : CfgErr) : (e.fail c).x1 = e.x1 := rfl
@[simp] theorem Engine.fail_x2 (e : Engine) (c : CfgErr) : (e.fail c).x2 = e.x2 := rfl
@[simp] theorem Engine.fail_y1 (e : Engine) (c : CfgErr) : (e.fail c).y1 = e.y1 := rfl
@[simp] theorem Engine.fail_y2 (e : Engine) (c : CfgErr) : (e.fail c).y2 = e.y2 := rfl
@[simp] theorem Engine.fail_qerr (e : Engine) (c : CfgErr) : (e.fail c).qerr = e.qerr := rfl
@[simp] theorem Engine.fail_mag (e : Engine) (c : CfgErr) : (e.fail c).mag = e.mag := rfl

@[simp] theorem Engine.setMag_mode (e : Engine) (m : Int) : (e.setMag m).mode = e.mode := rfl
@[simp] theorem Engine.setMag_cfgerr (e : Engine) (m : Int) : (e.setMag m).cfgerr = e.cfgerr := rfl
@[simp] theorem Engine.setMag_det (e : Engine) (m : Int) : (e.setMag m).det = e.det := rfl
@[simp] theorem Engine.setMag_coef (e : Engine) (m : Int) : (e.setMag m).coef = e.coef := rfl
@[simp] theorem Engine.setMag_tbl (e : Engine) (m : Int) : (e.setMag m).tbl = e.tbl := rfl
@[simp] theorem Engine.setMag_phase (e : Engine) (m : Int) : (e.setMag m).phase = e.phase := rfl
@[simp] theorem Engine.setMag_x1 (e : Engine) (m : Int) : (e.setMag m).x1 = e.x1 := rfl
@[simp] theorem Engine.setMag_x2 (e : Engine) (m : Int) : (e.setMag m).x2 = e.x2 := rfl
@[simp] theorem Engine.setMag_y1 (e : Engine) (m : Int) : (e.setMag m).y1 = e.y1 := rfl
@[simp] theorem Engine.setMag_y2 (e : Engine) (m : Int) : (e.setMag m).y2 = e.y2 := rfl
@[simp] theorem Engine.setMag_qerr (e : Engine) (m : Int) : (e.setMag m).qerr = e.qerr := rfl
@[simp] theorem Engine.setMag_mag (e : Engine) (m : Int) : (e.setMag m).mag = BitVec.ofInt 32 m := rfl

@[simp] theorem Engine.setPhase_mode (e : Engine) (p : Int) : (e.setPhase p).mode = e.mode := rfl
@[simp] theorem Engine.setPhase_cfgerr (e : Engine) (p : Int) : (e.setPhase p).cfgerr = e.cfgerr := rfl
@[simp] theorem Engine.setPhase_det (e : Engine) (p : Int) : (e.setPhase p).det = e.det := rfl
@[simp] theorem Engine.setPhase_coef (e : Engine) (p : Int) : (e.setPhase p).coef = e.coef := rfl
@[simp] theorem Engine.setPhase_tbl (e : Engine) (p : Int) : (e.setPhase p).tbl = e.tbl := rfl
@[simp] theorem Engine.setPhase_phase (e : Engine) (p : Int) : (e.setPhase p).phase = BitVec.ofInt 32 p := rfl
@[simp] theorem Engine.setPhase_x1 (e : Engine) (p : Int) : (e.setPhase p).x1 = e.x1 := rfl
@[simp] theorem Engine.setPhase_x2 (e : Engine) (p : Int) : (e.setPhase p).x2 = e.x2 := rfl
@[simp] theorem Engine.setPhase_y1 (e : Engine) (p : Int) : (e.setPhase p).y1 = e.y1 := rfl
@[simp] theorem Engine.setPhase_y2 (e : Engine) (p : Int) : (e.setPhase p).y2 = e.y2 := rfl
@[simp] theorem Engine.setPhase_qerr (e : Engine) (p : Int) : (e.setPhase p).qerr = e.qerr := rfl
@[simp] theorem Engine.setPhase_mag (e : Engine) (p : Int) : (e.setPhase p).mag = e.mag := rfl

@[simp] theorem Engine.shiftFilter_mode (e : Engine) (rem err c : Int) : (e.shiftFilter rem err c).mode = e.mode := rfl
@[simp] theorem Engine.shiftFilter_cfgerr (e : Engine) (rem err c : Int) : (e.shiftFilter rem err c).cfgerr = e.cfgerr := rfl
@[simp] theorem Engine.shiftFilter_det (e : Engine) (rem err c : Int) : (e.shiftFilter rem err c).det = e.det := rfl
@[simp] theorem Engine.shiftFilter_coef (e : Engine) (rem err c : Int) : (e.shiftFilter rem err c).coef = e.coef := rfl
@[simp] theorem Engine.shiftFilter_tbl (e : Engine) (rem err c : Int) : (e.shiftFilter rem err c).tbl = e.tbl := rfl
@[simp] theorem Engine.shiftFilter_phase (e : Engine) (rem err c : Int) : (e.shiftFilter rem err c).phase = e.phase := rfl
@[simp] theorem Engine.shiftFilter_x1 (e : Engine) (rem err c : Int) : (e.shiftFilter rem err c).x1 = BitVec.ofInt 32 err := rfl
@[simp] theorem Engine.shiftFilter_x2 (e : Engine) (rem err c : Int) : (e.shiftFilter rem err c).x2 = e.x1 := rfl
@[simp] theorem Engine.shiftFilter_y1 (e : Engine) (rem err c : Int) : (e.shiftFilter rem err c).y1 = BitVec.ofInt 29 c := rfl
@[simp] theorem Engine.shiftFilter_y2 (e : Engine) (rem err c : Int) : (e.shiftFilter rem err c).y2 = e.y1 := rfl
@[simp] theorem Engine.shiftFilter_qerr (e : Engine) (rem err c : Int) : (e.shiftFilter rem err c).qerr = BitVec.ofInt 16 rem := rfl
@[simp] theorem Engine.shiftFilter_mag (e : Engine) (rem err c : Int) : (e.shiftFilter rem err c).mag = e.mag := rfl

@[simp] theorem State.withEngine_engine (s : State) (e : Engine) : (s.withEngine e).engine = e := rfl
@[simp] theorem State.withEngine_pending (s : State) (e : Engine) : (s.withEngine e).pending = s.pending := rfl
@[simp] theorem State.withEngine_responses (s : State) (e : Engine) : (s.withEngine e).responses = s.responses := rfl

@[simp] theorem State.withPending_engine (s : State) (l : List HostInput) : (s.withPending l).engine = s.engine := rfl
@[simp] theorem State.withPending_pending (s : State) (l : List HostInput) : (s.withPending l).pending = l := rfl
@[simp] theorem State.withPending_responses (s : State) (l : List HostInput) : (s.withPending l).responses = s.responses := rfl

@[simp] theorem State.respond_engine (s : State) (st : Status) (d : RspData) : (s.respond st d).engine = s.engine := rfl
@[simp] theorem State.respond_pending (s : State) (st : Status) (d : RspData) : (s.respond st d).pending = s.pending := rfl
@[simp] theorem State.respond_responses (s : State) (st : Status) (d : RspData) : (s.respond st d).responses = s.responses ++ [⟨st, d⟩] := rfl

@[simp] theorem State.hardwareReset_engine (s : State) : s.hardwareReset.engine = Engine.reset := rfl
@[simp] theorem State.hardwareReset_pending (s : State) : s.hardwareReset.pending = s.pending := rfl
@[simp] theorem State.hardwareReset_responses (s : State) : s.hardwareReset.responses = s.responses := rfl

@[simp] theorem State.offer_engine (s : State) (w : CmdWord) : (s.offer w).engine = s.engine := rfl
@[simp] theorem State.offer_pending (s : State) (w : CmdWord) : (s.offer w).pending = .command w :: s.pending := rfl
@[simp] theorem State.offer_responses (s : State) (w : CmdWord) : (s.offer w).responses = s.responses := rfl

@[simp] theorem Engine.reset_mode : Engine.reset.mode = .unconf := rfl
@[simp] theorem Engine.reset_cfgerr : Engine.reset.cfgerr = .none := rfl
@[simp] theorem Engine.reset_det : Engine.reset.det = .rational := rfl
@[simp] theorem Engine.reset_coef : Engine.reset.coef = [] := rfl
@[simp] theorem Engine.reset_tbl : Engine.reset.tbl = [] := rfl
@[simp] theorem Engine.reset_phase : Engine.reset.phase = 0#32 := rfl
@[simp] theorem Engine.reset_x1 : Engine.reset.x1 = 0#32 := rfl
@[simp] theorem Engine.reset_x2 : Engine.reset.x2 = 0#32 := rfl
@[simp] theorem Engine.reset_y1 : Engine.reset.y1 = 0#29 := rfl
@[simp] theorem Engine.reset_y2 : Engine.reset.y2 = 0#29 := rfl
@[simp] theorem Engine.reset_qerr : Engine.reset.qerr = 0#16 := rfl
@[simp] theorem Engine.reset_mag : Engine.reset.mag = 0#32 := rfl

@[simp] theorem State.reset_engine : State.reset.engine = Engine.reset := rfl
@[simp] theorem State.reset_pending : State.reset.pending = [] := rfl
@[simp] theorem State.reset_responses : State.reset.responses = [] := rfl

/-- Clearing twice is clearing once. -/
@[simp] theorem Engine.clear_clear (e : Engine) : e.clear.clear = e.clear := rfl

/-- The reset state is already cleared (10_state.md R45). -/
@[simp] theorem Engine.reset_clear : Engine.reset.clear = Engine.reset := rfl

end Sys2Proof.Machine
end

