-- ==== Sys2Proof/Laws/Ops.lean ====
section
/-! SUPPORT. Once for each shared operation and for each meaning, everything it can do; and that every operation over the
stores keeps `Memory.wf`. -/

namespace Sys2Proof.Machine

/-! ## Responding -/

theorem succeed_eq_next (s : State) (e : Engine) (d : RspData) (t : State) :
    succeed s e d = .next t ↔ t = (s.withEngine e).respond .ok d := by
  simp [succeed, eq_comm]

theorem raise_eq_next (s : State) (st : Status) (t : State) : raise s st = .next t ↔ t = s.respond st 0#64 := by
  simp [raise, eq_comm]

theorem raiseCfgError_eq_next (s : State) (c : CfgErr) (t : State) :
    raiseCfgError s c = .next t ↔ t = (s.withEngine (s.engine.fail c)).respond .cfgError 0#64 := by
  simp [raiseCfgError, eq_comm]

/-! ## The stores -/

theorem Memory.wf_reset : Memory.wf Engine.reset := by decide

theorem Memory.wf_of_same {e f : Engine} (hc : f.coef = e.coef) (ht : f.tbl = e.tbl) (h : Memory.wf e) : Memory.wf f := by
  unfold Memory.wf; rw [hc, ht]; exact h

theorem Memory.wf_pushCoef {e : Engine} (v : Int) (h : Memory.wf e) (room : e.coef.length < Config.MAX_TAPS) :
    Memory.wf (e.pushCoef v) :=
  ⟨by simpa using room, h.2⟩

theorem Memory.wf_pushTbl {e : Engine} (v : Int) (h : Memory.wf e) (room : e.tbl.length < Config.N) :
    Memory.wf (e.pushTbl v) :=
  ⟨h.1, by simpa using room⟩

theorem Memory.wf_clear {e : Engine} (h : Memory.wf e) : Memory.wf e.clear := h
theorem Memory.wf_start {e : Engine} (d : Detector) (h : Memory.wf e) : Memory.wf (e.start d) := h
theorem Memory.wf_fail {e : Engine} (c : CfgErr) (h : Memory.wf e) : Memory.wf (e.fail c) := h
theorem Memory.wf_setMag {e : Engine} (m : Int) (h : Memory.wf e) : Memory.wf (e.setMag m) := h
theorem Memory.wf_setPhase {e : Engine} (p : Int) (h : Memory.wf e) : Memory.wf (e.setPhase p) := h
theorem Memory.wf_shiftFilter {e : Engine} (r x y : Int) (h : Memory.wf e) : Memory.wf (e.shiftFilter r x y) := h

/-! ## Reading the stores -/

theorem tblAt_of_lt {e : Engine} {k : Nat} (h : k < e.tbl.length) : e.tblAt k = some (e.tbl[k]).toInt := by
  simp [Engine.tblAt, h]

theorem tblAt_of_ge {e : Engine} {k : Nat} (h : e.tbl.length ≤ k) : e.tblAt k = none := by
  simp [Engine.tblAt, h]

theorem coefAt_of_lt {e : Engine} {j : Nat} (h : j < e.coef.length) : e.coefAt j = some (e.coef[j]).toInt := by
  simp [Engine.coefAt, h]

/-- The coefficient set of an engine with one to three coefficients loaded, and none otherwise. -/
theorem taps_isSome_iff (e : Engine) : e.taps.isSome ↔ 1 ≤ e.coef.length ∧ e.coef.length ≤ 3 := by
  unfold Engine.taps
  match e.coef with
  | [] => simp [tapsOf]
  | [_] => simp [tapsOf]
  | [_, _] => simp [tapsOf]
  | [_, _, _] => simp [tapsOf]
  | _ :: _ :: _ :: _ :: _ => simp [tapsOf]

theorem phaseIndex_lt (p : Int) : phaseIndex p < 2048 := by
  unfold phaseIndex
  have h1 := Int.emod_nonneg (asr (p + pow2 (Config.STEP_SHIFT - 1)) Config.STEP_SHIFT) (b := (Config.N : Int)) (by decide)
  have h2 := Int.emod_lt_of_pos (asr (p + pow2 (Config.STEP_SHIFT - 1)) Config.STEP_SHIFT) (b := (Config.N : Int)) (by decide)
  simp only [Config.N, Nat.cast_ofNat] at h1 h2 ⊢
  omega

/-- The in-phase entry lies a quarter of the table on (40_sine_table_nco.md R102). -/
theorem oscI_eq (e : Engine) (p : Int) : e.oscI p = e.tblAt ((phaseIndex p + 512) % 2048) := by
  simp only [Engine.oscI, Config.N, Nat.reduceDiv]

/-- With a full table the lookup always has a value: the two entries of 40_sine_table_nco.md R101 and R102. -/
theorem lookup_of_full {e : Engine} (h : e.tbl.length = 2048) (p : Int) :
    ∃ oi oq : Sample, e.tbl[(phaseIndex p + 512) % 2048]? = some oi ∧ e.tbl[phaseIndex p]? = some oq ∧
      e.lookup p = some (oi.toInt, oq.toInt) := by
  have h1 : phaseIndex p < e.tbl.length := by rw [h]; exact phaseIndex_lt p
  have h2 : (phaseIndex p + 512) % 2048 < e.tbl.length := by rw [h]; exact Nat.mod_lt _ (by decide)
  refine ⟨_, _, List.getElem?_eq_getElem h2, List.getElem?_eq_getElem h1, ?_⟩
  rw [Engine.lookup, oscI_eq, tblAt_of_lt h2, Engine.oscQ, tblAt_of_lt h1]

/-! ## One sample -/

/-- What the detector leaves: the engine as it was, but for `MAG` with `DET = 1` (41_phase_detector.md R120). -/
theorem detect_engine (e : Engine) (i q : Int) :
    (e.det = .rational ∧ e.detect i q = (detectRational i q, e)) ∨
    (e.det = .cordic ∧ e.detect i q = ((detectCordic i q).1, e.setMag (detectCordic i q).2)) := by
  unfold Engine.detect; cases e.det <;> simp

/-- The elements of the engine that a sample does not write (43_process.md R155). -/
theorem sample_frame (e : Engine) (t : Taps) (i q oi oq : Int) :
    (e.sample t i q oi oq).2.mode = e.mode ∧ (e.sample t i q oi oq).2.cfgerr = e.cfgerr ∧
    (e.sample t i q oi oq).2.det = e.det ∧ (e.sample t i q oi oq).2.coef = e.coef ∧
    (e.sample t i q oi oq).2.tbl = e.tbl := by
  unfold Engine.sample Engine.advance
  rcases detect_engine e (mix i q oi oq).1 (mix i q oi oq).2 with ⟨hd, h⟩ | ⟨hd, h⟩ <;> simp [h, hd]

/-- The correction lies in the range of `Y1` (42_loop_filter.md R136). -/
theorem correction_bounds (e : Engine) (t : Taps) (err : Int) :
    -268435456 ≤ e.correction t err ∧ e.correction t err ≤ 268435455 := clamp_bounds (by decide)

/-- The residual fits the sample width (43_process.md R151). -/
theorem mix_bounds (i q oi oq : Int) :
    (-32768 ≤ (mix i q oi oq).1 ∧ (mix i q oi oq).1 ≤ 32767) ∧ (-32768 ≤ (mix i q oi oq).2 ∧ (mix i q oi oq).2 ≤ 32767) :=
  ⟨sat_bounds 16 _, sat_bounds 16 _⟩

/-- The scaled error fits `X1` (41_phase_detector.md R123). -/
theorem scaleError_bounds (raw : Int) : -2147483648 ≤ scaleError raw ∧ scaleError raw ≤ 2147483647 := sat_bounds 32 _

/-! ## Everything each meaning can do -/

theorem execNop_eq (s : State) : execNop s = .next ((s.withEngine s.engine).respond .ok 0#64) := rfl

theorem execLdc_cases {v : Int} {s t : State} (h : execLdc v s = .next t) :
    (s.engine.mode ≠ .unconf ∧ t = s.respond .illegalMode 0#64) ∨
    (s.engine.mode = .unconf ∧ Config.MAX_TAPS ≤ s.engine.coef.length ∧ t = s.respond .overfill 0#64) ∨
    (s.engine.mode = .unconf ∧ s.engine.coef.length < Config.MAX_TAPS ∧
      t = (s.withEngine (s.engine.pushCoef v)).respond .ok 0#64) := by
  unfold execLdc at h
  split_ifs at h with h1 h2
  · exact .inl ⟨h1, (raise_eq_next ..).mp h⟩
  · exact .inr (.inl ⟨not_not.mp h1, h2, (raise_eq_next ..).mp h⟩)
  · exact .inr (.inr ⟨not_not.mp h1, not_le.mp h2, (succeed_eq_next ..).mp h⟩)

theorem execLdt_cases {v : Int} {s t : State} (h : execLdt v s = .next t) :
    (s.engine.mode ≠ .unconf ∧ t = s.respond .illegalMode 0#64) ∨
    (s.engine.mode = .unconf ∧ Config.N ≤ s.engine.tbl.length ∧ t = s.respond .overfill 0#64) ∨
    (s.engine.mode = .unconf ∧ s.engine.tbl.length < Config.N ∧
      t = (s.withEngine (s.engine.pushTbl v)).respond .ok 0#64) := by
  unfold execLdt at h
  split_ifs at h with h1 h2
  · exact .inl ⟨h1, (raise_eq_next ..).mp h⟩
  · exact .inr (.inl ⟨not_not.mp h1, h2, (raise_eq_next ..).mp h⟩)
  · exact .inr (.inr ⟨not_not.mp h1, not_le.mp h2, (succeed_eq_next ..).mp h⟩)

theorem execRdreg_cases {r : Nat} {s t : State} (h : execRdreg r s = .next t) :
    (s.engine.readAddr r = none ∧ t = s.respond .badAddr 0#64) ∨
    (∃ v, s.engine.readAddr r = some v ∧ t = (s.withEngine s.engine).respond .ok (readData v)) := by
  unfold execRdreg at h
  split at h
  · exact .inl ⟨‹_›, (raise_eq_next ..).mp h⟩
  · exact .inr ⟨_, ‹_›, (succeed_eq_next ..).mp h⟩

theorem execRdt_cases {k : Nat} {s t : State} (h : execRdt k s = .next t) :
    (s.engine.tblAt k = none ∧ t = s.respond .badAddr 0#64) ∨
    (∃ v, s.engine.tblAt k = some v ∧ t = (s.withEngine s.engine).respond .ok (readData v)) := by
  unfold execRdt at h
  split at h
  · exact .inl ⟨‹_›, (raise_eq_next ..).mp h⟩
  · exact .inr ⟨_, ‹_›, (succeed_eq_next ..).mp h⟩

theorem execInit_cases {det : Detector} {s t : State} (h : execInit det s = .next t) :
    (s.engine.mode ≠ .unconf ∧ t = s.respond .illegalMode 0#64) ∨
    (s.engine.mode = .unconf ∧ s.engine.validate = .none ∧ t = (s.withEngine (s.engine.start det)).respond .ok 0#64) ∨
    (s.engine.mode = .unconf ∧ s.engine.validate ≠ .none ∧
      t = (s.withEngine (s.engine.fail s.engine.validate)).respond .cfgError 0#64) := by
  unfold execInit at h
  split_ifs at h with h1
  · exact .inl ⟨h1, (raise_eq_next ..).mp h⟩
  · refine .inr ?_
    split at h
    · exact .inl ⟨not_not.mp h1, ‹_›, (succeed_eq_next ..).mp h⟩
    all_goals
      rename_i hv
      refine .inr ⟨not_not.mp h1, by simp [hv], ?_⟩
      rw [hv]
      exact (raiseCfgError_eq_next ..).mp h

theorem execReset_cases {s t : State} (h : execReset s = .next t) :
    (s.engine.mode ≠ .ready ∧ t = s.respond .illegalMode 0#64) ∨
    (s.engine.mode = .ready ∧ t = (s.withEngine s.engine.clear).respond .ok 0#64) := by
  unfold execReset at h
  split_ifs at h with h1
  · exact .inl ⟨h1, (raise_eq_next ..).mp h⟩
  · exact .inr ⟨not_not.mp h1, (succeed_eq_next ..).mp h⟩

theorem execProc_cases {i q : Int} {s t : State} (h : execProc i q s = .next t) :
    (s.engine.mode ≠ .ready ∧ t = s.respond .illegalMode 0#64) ∨
    (s.engine.mode = .ready ∧ ∃ oi oq taps, s.engine.lookup s.engine.phase.toInt = some (oi, oq) ∧
      s.engine.taps = some taps ∧
      t = (s.withEngine (s.engine.sample taps i q oi oq).2).respond .ok
        (procData (s.engine.sample taps i q oi oq).1 oq oi)) := by
  unfold execProc at h
  split_ifs at h with h1
  · exact .inl ⟨h1, (raise_eq_next ..).mp h⟩
  · refine .inr ⟨not_not.mp h1, ?_⟩
    split at h
    · cases h
    · split at h
      · cases h
      · exact ⟨_, _, _, ‹_›, ‹_›, (succeed_eq_next ..).mp h⟩

/-- A `PROC` in a state that can run a sample (43_process.md R155; 60_exceptions.md R202). -/
theorem execProc_of_readyToSample {s : State} (h : s.engine.mode = .ready) (h1 : 1 ≤ s.engine.coef.length)
    (h2 : s.engine.coef.length ≤ 3) (h3 : s.engine.tbl.length = 2048) (i q : Int) :
    ∃ (oi oq : Sample) (taps : Taps),
      s.engine.tbl[(phaseIndex s.engine.phase.toInt + 512) % 2048]? = some oi ∧
      s.engine.tbl[phaseIndex s.engine.phase.toInt]? = some oq ∧ s.engine.taps = some taps ∧
      execProc i q s = .next ((s.withEngine (s.engine.sample taps i q oi.toInt oq.toInt).2).respond .ok
        (procData (s.engine.sample taps i q oi.toInt oq.toInt).1 oq.toInt oi.toInt)) := by
  obtain ⟨oi, oq, e1, e2, e3⟩ := lookup_of_full h3 s.engine.phase.toInt
  obtain ⟨taps, ht⟩ := Option.isSome_iff_exists.mp ((taps_isSome_iff s.engine).mpr ⟨h1, h2⟩)
  exact ⟨oi, oq, taps, e1, e2, ht, by simp [execProc, h, e3, ht, succeed]⟩

/-- Every meaning leaves the inputs still to come as they are, and answers once (30_encoding.md R71). -/
theorem exec_pending_responses {i : Instr} {s t : State} (h : exec i s = .next t) :
    t.pending = s.pending ∧ ∃ r : Response, t.responses = s.responses ++ [r] := by
  cases i with
  | nop =>
    obtain rfl := Host.Outcome.next.inj ((execNop_eq s).symm.trans h)
    exact ⟨rfl, _, rfl⟩
  | proc i q => rcases execProc_cases h with ⟨_, rfl⟩ | ⟨_, _, _, _, _, _, rfl⟩ <;> exact ⟨rfl, _, rfl⟩
  | ldc v => rcases execLdc_cases h with ⟨_, rfl⟩ | ⟨_, _, rfl⟩ | ⟨_, _, rfl⟩ <;> exact ⟨rfl, _, rfl⟩
  | ldt v => rcases execLdt_cases h with ⟨_, rfl⟩ | ⟨_, _, rfl⟩ | ⟨_, _, rfl⟩ <;> exact ⟨rfl, _, rfl⟩
  | rdreg r => rcases execRdreg_cases h with ⟨_, rfl⟩ | ⟨_, _, rfl⟩ <;> exact ⟨rfl, _, rfl⟩
  | rdt k => rcases execRdt_cases h with ⟨_, rfl⟩ | ⟨_, _, rfl⟩ <;> exact ⟨rfl, _, rfl⟩
  | init det => rcases execInit_cases h with ⟨_, rfl⟩ | ⟨_, _, rfl⟩ | ⟨_, _, rfl⟩ <;> exact ⟨rfl, _, rfl⟩
  | reset => rcases execReset_cases h with ⟨_, rfl⟩ | ⟨_, rfl⟩ <;> exact ⟨rfl, _, rfl⟩

end Sys2Proof.Machine
end

