-- ==== Sys2Proof/Laws/PerInstr.lean ====
section
/-! SUPPORT. Facts about every instruction as syntax, one lemma per constructor. The family `EncodeOpcode`: the word of an
instruction carries the opcode of its mnemonic, and a well-formed instruction passes the check that runs. -/

namespace Sys2Proof.Laws.EncodeOpcode

/-- The `op` field of an instruction's word is its mnemonic's opcode (30_encoding.md R78), and the check `wellFormed`
decides `WellFormed`. -/
def Statement (i : Instr) : Prop :=
  opField (encode i) = i.mnemonic.opcode ∧ (i.wellFormed = true ↔ i.WellFormed)

theorem nop : Statement .nop := ⟨opField_pack .., by simp [Instr.wellFormed]⟩
theorem proc (i q : Int) : Statement (.proc i q) := ⟨opField_pack .., by simp [Instr.wellFormed, FitsSample]⟩
theorem ldc (v : Int) : Statement (.ldc v) := ⟨opField_pack .., by simp [Instr.wellFormed, FitsWord]⟩
theorem ldt (v : Int) : Statement (.ldt v) := ⟨opField_pack .., by simp [Instr.wellFormed, FitsSample]⟩
theorem rdreg (r : Nat) : Statement (.rdreg r) := ⟨opField_pack .., by simp [Instr.wellFormed]⟩
theorem rdt (k : Nat) : Statement (.rdt k) := ⟨opField_pack .., by simp [Instr.wellFormed]⟩
theorem init (det : Detector) : Statement (.init det) := ⟨opField_pack .., by simp [Instr.wellFormed]⟩
theorem reset : Statement .reset := ⟨opField_pack .., by simp [Instr.wellFormed]⟩

end Sys2Proof.Laws.EncodeOpcode
end

