-- ==== Sys2Proof/Laws/Run.lean ====
section
/-! SUPPORT. What one step and a run of steps do with the head of the command channel (30_encoding.md R72), for proofs
about runs. -/

namespace Sys2Proof.Machine

theorem step_of_no_input {s : State} (h : s.pending = []) : step s = .next s := by
  simp [step, runChannel, h]

theorem step_of_hardwareReset {s : State} {rest : List HostInput} (h : s.pending = .hardwareReset :: rest) :
    step s = .next (s.withPending rest).hardwareReset := by
  simp [step, runChannel, h, runInput]

theorem step_of_abandoned {s : State} {w : CmdWord} {rest : List HostInput} (h : s.pending = .abandoned w :: rest) :
    step s = .next (s.withPending rest).hardwareReset := by
  simp [step, runChannel, h, runInput]

theorem step_of_command {s : State} {w : CmdWord} {rest : List HostInput} {i : Instr}
    (h : s.pending = .command w :: rest) (hd : decode w = .command i) : step s = exec i (s.withPending rest) := by
  simp [step, runChannel, h, runInput, runWord, hd]

theorem step_of_illegalOp {s : State} {w : CmdWord} {rest : List HostInput}
    (h : s.pending = .command w :: rest) (hd : decode w = .illegalOp) :
    step s = .next ((s.withPending rest).respond .illegalOp 0#64) := by
  simp [step, runChannel, h, runInput, runWord, hd, raise]

theorem step_of_illegalField {s : State} {w : CmdWord} {rest : List HostInput}
    (h : s.pending = .command w :: rest) (hd : decode w = .illegalField) :
    step s = .next ((s.withPending rest).respond .illegalField 0#64) := by
  simp [step, runChannel, h, runInput, runWord, hd, raise]

/-- Everything a step can do. -/
theorem step_cases {s t : State} (h : step s = .next t) :
    (s.pending = [] ∧ t = s) ∨
    (∃ x rest, s.pending = x :: rest ∧ (x = .hardwareReset ∨ ∃ w, x = .abandoned w) ∧
      t = (s.withPending rest).hardwareReset) ∨
    (∃ w rest st, s.pending = .command w :: rest ∧
      (decode w = .illegalOp ∧ st = .illegalOp ∨ decode w = .illegalField ∧ st = .illegalField) ∧
      t = (s.withPending rest).respond st 0#64) ∨
    (∃ w rest i, s.pending = .command w :: rest ∧ decode w = .command i ∧ exec i (s.withPending rest) = .next t) := by
  match hp : s.pending with
  | [] => exact .inl ⟨rfl, (Host.Outcome.next.inj ((step_of_no_input hp).symm.trans h)).symm⟩
  | .hardwareReset :: rest =>
    exact .inr (.inl ⟨_, rest, rfl, .inl rfl, (Host.Outcome.next.inj ((step_of_hardwareReset hp).symm.trans h)).symm⟩)
  | .abandoned w :: rest =>
    exact .inr (.inl ⟨_, rest, rfl, .inr ⟨w, rfl⟩, (Host.Outcome.next.inj ((step_of_abandoned hp).symm.trans h)).symm⟩)
  | .command w :: rest =>
    match hd : decode w with
    | .illegalOp =>
      exact .inr (.inr (.inl ⟨w, rest, _, rfl, .inl ⟨hd, rfl⟩,
        (Host.Outcome.next.inj ((step_of_illegalOp hp hd).symm.trans h)).symm⟩))
    | .illegalField =>
      exact .inr (.inr (.inl ⟨w, rest, _, rfl, .inr ⟨hd, rfl⟩,
        (Host.Outcome.next.inj ((step_of_illegalField hp hd).symm.trans h)).symm⟩))
    | .command i => exact .inr (.inr (.inr ⟨w, rest, i, rfl, hd, (step_of_command hp hd).symm.trans h⟩))

/-- A run takes its steps one after another. -/
theorem run_succ_of_next {M : Host.Core} {s t : M.State} (k : Nat) (h : M.step s = .next t) :
    M.run (k + 1) s = M.run k t := by
  simp only [Host.Core.run, h]

/-- A run of this machine takes its steps one after another. -/
theorem run_next {s t : State} (k : Nat) (h : step s = .next t) :
    Host.Core.run Sys2Proof.core (k + 1) s = Host.Core.run Sys2Proof.core k t :=
  run_succ_of_next (M := Sys2Proof.core) k h

end Sys2Proof.Machine
end

