-- ==== Sys2Proof/Tests/Slice0.lean ====
section
/-! SUPPORT. The tests of the model. The expected values are the spec's own: 30_encoding.md R82, 95_test_vectors.md (the
identifiers PD, L, F, M, W, CV, P are that file's), or words written out by hand from the fields of R73, R76 and R78. The
second half shows, for every statement that has hypotheses, a state and operands that meet all of them. -/

namespace Sys2Proof.Tests

open Sys2Proof Sys2Proof.Machine Sys2Proof.Spec

/-! ## States to test on -/

/-- An unconfigured engine with the stores given. -/
def loading (coef tbl : List Int) : Engine :=
  { Engine.reset with coef := coef.map (BitVec.ofInt 32), tbl := tbl.map (BitVec.ofInt 16) }

/-- An engine in `READY` with the reference table and a cleared loop state. -/
def running (det : Detector) (coef : List Int) : Engine :=
  freshLoop det (coef.map (BitVec.ofInt 32)) (refTable.map (BitVec.ofInt 16))

/-- An engine in `FAILED`: `INIT` with nothing loaded (CV14). -/
def failed : Engine := { Engine.reset with mode := .failed, cfgerr := .noCoef }

/-- A machine with the engine given, no input to come and no response given. -/
def machine (e : Engine) : State := { engine := e, pending := [], responses := [] }

/-- The engine after the outcome of a step. -/
def engineOf (o : Host.Outcome State Fault Refusal) : Option Engine :=
  match o with
  | .next t => some t.engine
  | .fault _ => none
  | .refused _ => none

/-- The state after the outcome of a step. -/
def nextOf (o : Host.Outcome State Fault Refusal) : Option State :=
  match o with
  | .next t => some t
  | .fault _ => none
  | .refused _ => none

/-- The last response after the outcome of a step. -/
def answerOf (o : Host.Outcome State Fault Refusal) : Option Response :=
  match o with
  | .next t => t.responses.getLast?
  | .fault _ => none
  | .refused _ => none

/-! ## Decoding: words written out from the fields of R73, R76, R78 -/

/-- op 0, a 0, d 0. -/
theorem test_decode_nop : decode (0b0000#4 ++ 0b000000000000#12 ++ 0x00000000#32) = .command .nop := by decide

/-- op 1, a 0, q = -2 in d[31:16], i = 3 in d[15:0]. -/
theorem test_decode_proc : decode (0b0001#4 ++ 0b000000000000#12 ++ 0xFFFE0003#32) = .command (.proc 3 (-2)) := by decide

/-- op 2, a 0, d = -131073. -/
theorem test_decode_ldc : decode (0b0010#4 ++ 0b000000000000#12 ++ 0xFFFDFFFF#32) = .command (.ldc (-131073)) := by decide

/-- op 3, a 0, d[15:0] = -32767. -/
theorem test_decode_ldt : decode (0b0011#4 ++ 0b000000000000#12 ++ 0x00008001#32) = .command (.ldt (-32767)) := by decide

/-- op 4, a = 0x821: all twelve address bits count. -/
theorem test_decode_rdreg : decode (0b0100#4 ++ 0b100000100001#12 ++ 0x00000000#32) = .command (.rdreg 0x821) := by decide

/-- op 5, a[11] 0, a[10:0] = 1026. -/
theorem test_decode_rdt : decode (0b0101#4 ++ 0b010000000010#12 ++ 0x00000000#32) = .command (.rdt 1026) := by decide

/-- op 6, a 0, d[0] = 1. -/
theorem test_decode_init : decode (0b0110#4 ++ 0b000000000000#12 ++ 0x00000001#32) = .command (.init .cordic) := by decide

/-- op 7, a 0, d 0. -/
theorem test_decode_reset : decode (0b0111#4 ++ 0b000000000000#12 ++ 0x00000000#32) = .command .reset := by decide

/-- CV3, CV4: the reserved opcodes, the fields not looked at. -/
theorem test_decode_illegalOp :
    decode 0x800000000000#48 = .illegalOp ∧ decode 0xFFFFFFFFFFFF#48 = .illegalOp := by decide

/-- CV2, CV6, CV7, CV9, CV11, CV18, CV19, and `LDC` with `a[11] = 1`. -/
theorem test_decode_illegalField :
    [0x000000000001#48, 0x100100000000#48, 0x3000FFFFFFFF#48, 0x580000000000#48, 0x400000000001#48, 0x700000000001#48,
      0x600000000002#48, 0x280000000000#48].map decode = List.replicate 8 .illegalField := by decide

/-- The word 0x54321ABCDEF0 crosses a byte-wide transport from 0xF0 to 0x54 (20_memory.md R51). -/
theorem test_bytes : wordToBytes 0x54321ABCDEF0#48 = [0xF0#8, 0xDE#8, 0xBC#8, 0x1A#8, 0x32#8, 0x54#8] := by decide

/-- One word of each row, laid out as the opcode table numbers its bits, decodes to the row's command. -/
theorem test_decodeTableWord :
    [0x000000000000, 0x1000FFFE0003, 0x2000FFFDFFFF, 0x300000008001, 0x482100000000, 0x540200000000, 0x600000000001,
      0x700000000000].map (decodeTableWord 48) =
    [some .nop, some (.proc 3 (-2)), some (.ldc (-131073)), some (.ldt (-32767)), some (.rdreg 0x821), some (.rdt 1026),
      some (.init .cordic), some .reset] := by decide

/-- The first step from reset runs the word that `withFetchWord` places: the statuses of CV1, CV5, of an `LDC`, an `LDT`
and a read of an unmapped address, of CV8, CV14 and CV17. -/
theorem test_first_instruction :
    [0x000000000000, 0x1000FFFE0003, 0x2000FFFDFFFF, 0x300000008001, 0x482100000000, 0x540200000000, 0x600000000001,
      0x700000000000].map (fun w => (answerOf (step (State.reset.withFetchWord 48 w))).map Response.status) =
    [some .ok, some .illegalMode, some .ok, some .ok, some .badAddr, some .badAddr, some .cfgError, some .illegalMode] := by
  decide

/-! ## WellFormed: one ill-formed term for each check -/

theorem test_illformed_proc_i : Instr.wellFormed (.proc 32768 0) = false := by decide
theorem test_illformed_proc_q : Instr.wellFormed (.proc 0 (-32769)) = false := by decide
theorem test_illformed_ldc : Instr.wellFormed (.ldc 2147483648) = false := by decide
theorem test_illformed_ldt : Instr.wellFormed (.ldt 32768) = false := by decide
theorem test_illformed_rdreg : Instr.wellFormed (.rdreg 4096) = false := by decide
theorem test_illformed_rdt : Instr.wellFormed (.rdt 2048) = false := by decide

/-! ## The reference table and the components -/

/-- The checksums and the symmetries of 20_memory.md R63. -/
theorem test_reference_table :
    refTable.length = 2048 ∧ (refTable.take 513).sum = 10696746 ∧
    (refTable.map (fun v => (v.natAbs : Int))).sum = 42721450 ∧
    refTable[1024]? = some 0 ∧ refTable[1536]? = some (-32767) := by decide +kernel

/-- PD1 to PD35, the rational detector. -/
theorem test_rational :
    ([(0, 0, 0), (1, 0, 16384), (0, 1, 0), (-1, 0, -16384), (0, -1, 32768), (1, 1, 8192), (-1, 1, -8192),
      (-1, -1, -24576), (1, -1, 24576), (32767, 32767, 8192), (-32768, -32768, -24576), (-32768, 32767, -8192),
      (32767, -32768, 24576), (-32768, 0, -16384), (-1, -32768, -32767), (1, -32768, 32767), (0, -32768, 32768),
      (0, 32767, 0), (32767, 0, 16384), (3, 4, 7022), (4, 3, 9362), (-3, 4, -7022), (3, -4, 25746), (-3, -4, -25746),
      (1, -3, 28672), (-1, -3, -28672), (1, 3, 4096), (1000, -1, 16401), (-1000, -1, -16401), (100, 32767, 50),
      (20000, 10000, 10922), (-32768, 1, -16383), (-32768, -1, -16385), (32494, 4211, 14504), (32762, 502, 16136)] :
      List (Int × Int × Int)).all (fun v => detectRational v.1 v.2.1 == v.2.2) = true := by decide +kernel

/-- PD1 to PD35, CORDIC. -/
theorem test_cordic :
    ([(0, 0, 0, 0), (1, 0, -1473, 3), (0, 1, 17857, 0), (-1, 0, -31295, 0), (0, -1, -17857, 3), (1, 1, 8199, 3),
      (-1, 1, 24583, 3), (-1, -1, -24569, 3), (1, -1, -8185, 3), (32767, 32767, 8199, 46341),
      (-32768, -32768, -24569, 46341), (-32768, 32767, 24583, 46341), (32767, -32768, -8199, 46339),
      (-32768, 0, -32597, 32764), (-1, -32768, -16213, 32762), (1, -32768, -16555, 32764), (0, -32768, -16555, 32764),
      (0, 32767, 16555, 32762), (32767, 0, -171, 32764), (3, 4, 10153, 5), (4, 3, 6231, 6), (-3, 4, 22615, 6),
      (3, -4, -10153, 6), (-3, -4, -22615, 5), (1, -3, -12747, 4), (-1, -3, -19459, 4), (1, 3, 13309, 4),
      (1000, -1, 171, 998), (-1000, -1, 32597, 1000), (100, 32767, 16555, 32760), (20000, 10000, 4939, 22359),
      (-32768, 1, -32597, 32762), (-32768, -1, 32597, 32764), (32494, 4211, 1121, 32759), (32762, 502, 481, 32750)] :
      List (Int × Int × Int × Int)).all (fun v => detectCordic v.1 v.2.1 == v.2.2) = true := by decide +kernel

/-- L1 to L13. -/
theorem test_lookup :
    ([(0, 32767, 0), (131071, 32767, 0), (131072, 32767, 101), (-131072, 32767, 0), (-131073, 32767, -101),
      (262144, 32767, 101), (67108864, 23170, 23170), (134217728, 0, 32767), (-134217728, 0, -32767),
      (268435456, -32767, 0), (-268435455, -32767, 0), (268304384, -32767, 0), (-9826304, 32556, -3712)] :
      List (Int × Int × Int)).all (fun v => (running .rational [1]).lookup v.1 == some v.2) = true := by decide +kernel

/-- M1 to M10. -/
theorem test_mix :
    ([(32767, 0, 32767, 0, 32766, 0), (1, 0, 32767, 0, 0, 0), (-1, 0, 32767, 0, -1, 0), (0, 0, 5, 5, 0, 0),
      (32767, 32767, 32767, 32767, 32767, 0), (-32768, -32768, 32767, 32767, -32768, 0),
      (-32768, -32768, -32768, -32768, 32767, 0), (-32768, 32767, 32767, -32767, -32768, -1),
      (-32768, 0, -32768, 0, 32767, 0), (32763, 503, 32556, -3712, 32494, 4211)] :
      List (Int × Int × Int × Int × Int × Int)).all
        (fun v => mix v.1 v.2.1 v.2.2.1 v.2.2.2.1 == v.2.2.2.2) = true := by decide

/-- W1 to W8. -/
theorem test_wrap :
    ([(0, 0), (268435456, 268435456), (268435457, -268435455), (-268435455, -268435455), (-268435456, 268435456),
      (536870911, -1), (-536870911, 1), (536870910, -2)] : List (Int × Int)).all
        (fun v => wrapPhase v.1 == v.2) = true := by decide

/-- E2, E5 to E7. -/
theorem test_scale :
    [scaleError 1, scaleError 32768, scaleError (-32767), scaleError (-171)] =
      [8192, 268435456, -268427264, -1400832] := by decide

/-- An engine of the filter vectors: the coefficients and (X1, X2, Y1, Y2, QERR). -/
def filterState (coef : List Int) (x1 x2 y1 y2 qerr : Int) : Engine :=
  { loading coef [] with x1 := BitVec.ofInt 32 x1, x2 := BitVec.ofInt 32 x2, y1 := BitVec.ofInt 29 y1,
                         y2 := BitVec.ofInt 29 y2, qerr := BitVec.ofInt 16 qerr }

/-- What a filter call gives: `y0` and (X1, X2, Y1, Y2, QERR). -/
def filterResult (e : Engine) (err : Int) : Option (List Int) :=
  e.taps.map fun t =>
    let r := e.advance t err
    [r.1, r.2.x1.toInt, r.2.x2.toInt, r.2.y1.toInt, r.2.y2.toInt, (r.2.qerr.toNat : Int)]

/-- F1, F2, F5, F6, F14 to F16. -/
theorem test_filter_one_and_clamp :
    filterResult (filterState [-6554] 0 0 0 0 0) 134217728 = some [-13422592, 134217728, 0, -13422592, 0, 0] ∧
    filterResult (filterState [-6554] 134217728 0 (-13422592) 0 0) (-8192) =
      some [819, -8192, 134217728, 819, -13422592, 16384] ∧
    filterResult (filterState [-1] 0 0 0 0 0) 1 = some [-1, 1, 0, -1, 0, 65535] ∧
    filterResult (filterState [-1] 1 0 (-1) 0 65535) 1 = some [0, 1, 1, 0, -1, 65534] ∧
    filterResult (filterState [131071] 0 0 0 0 0) 268435456 = some [268435455, 268435456, 0, 268435455, 0, 0] ∧
    filterResult (filterState [131071] 268435456 0 268435455 0 0) (-268427264) =
      some [-268435456, -268427264, 268435456, -268435456, 268435455, 57344] ∧
    filterResult (filterState [131071, 131071, 131071] 268435456 268435456 0 0 65535) 268435456 =
      some [268435455, 268435456, 268435456, 268435455, 0, 65535] := by decide

/-- F7 to F9, F11 to F13. -/
theorem test_filter_two_and_three :
    filterResult (filterState [65536, 0] 0 0 268435455 0 0) 1 = some [268435455, 1, 0, 268435455, 268435455, 0] ∧
    filterResult (filterState [65536, 0] 0 0 (-268435456) 0 0) (-1) =
      some [-268435456, -1, 0, -268435456, -268435456, 0] ∧
    filterResult (filterState [0, 0, 0] 0 0 268435455 (-268435456) 0) 0 = some [268435455, 0, 0, 268435455, 268435455, 0] ∧
    filterResult (filterState [8052, -15908, 7864] 1000000 (-2000000) 50000 40000 65535) 3000000 =
      some [-54135, 3000000, 1000000, -54135, 50000, 16895] ∧
    filterResult (filterState [4798, -4634] (-8192) 0 1310720 0 12345) 0 =
      some [1311299, 0, -8192, 1311299, 1310720, 28729] ∧
    filterResult (filterState [4798, -4634] 0 (-8192) 1311299 1310720 28729) 0 =
      some [1311299, 0, 0, 1311299, 1311299, 28729] := by decide

/-! ## The commands -/

/-- P1, n = 1, from the state that n = 0 left. -/
theorem test_proc_rational :
    let e := { running .rational [-4798, 4634] with
      phase := BitVec.ofInt 32 (-9826304), x1 := BitVec.ofInt 32 134217728, y1 := BitVec.ofInt 29 (-9826304) }
    let o := exec (.proc 32763 503) (machine e)
    answerOf o = some ⟨.ok, 0x07150000F1807F2C#64⟩ ∧
    (engineOf o).map (fun e => [e.phase.toInt, e.x1.toInt, e.x2.toInt, e.y1.toInt, e.y2.toInt, e.qerr.toInt, e.mag.toInt]) =
      some [-18860950, 118816768, 134217728, -9034646, -9826304, 0, 0] := by decide +kernel

/-- P6, n = 1, from the state that n = 0 left. -/
theorem test_proc_cordic :
    let e := { running .cordic [4798, -4634] with
      phase := BitVec.ofInt 32 (-102558), x1 := BitVec.ofInt 32 (-1400832), y1 := BitVec.ofInt 29 (-102558),
      qerr := 49152#16, mag := 32761#32 }
    let o := exec (.proc 32763 503) (machine e)
    answerOf o = some ⟨.ok, 0x003C200000007FFF#64⟩ ∧
    (engineOf o).map (fun e => (e.phase.toInt, e.y1.toInt, e.qerr.toNat, e.mag.toNat)) =
      some (182416, 284974, 16384, 32750) := by decide +kernel

/-- CV1: `NOP` in `FAILED` answers `OK` and changes nothing. -/
theorem test_nop : nextOf (exec .nop (machine failed)) = some (answered (machine failed) failed .ok 0#64) := by decide

/-- P3: `LDC 5` in `UNCONF`; CV12: the fourth. -/
theorem test_ldc :
    (engineOf (exec (.ldc 5) (machine Engine.reset))).map Engine.coef = some [5#32] ∧
    answerOf (exec (.ldc 4) (machine (loading [1, 2, 3] []))) = some ⟨.overfill, 0#64⟩ := by decide

/-- CV16: in `READY` the mode is checked before the room. -/
theorem test_ldc_mode :
    answerOf (exec (.ldc 4) (machine (running .rational [1, 2, 3]))) = some ⟨.illegalMode, 0#64⟩ := by decide +kernel

/-- `LDT -1` after `LDT 0` stores the sixteen bits 0xFFFF at index 1 (R82, R172). -/
theorem test_ldt :
    (engineOf (exec (.ldt (-1)) (machine (loading [] [0])))).map Engine.tbl = some [0#16, 0xFFFF#16] := by decide

/-- CV13: the 2049th. -/
theorem test_ldt_overfill :
    answerOf (exec (.ldt 0) (machine { running .rational [1] with mode := .unconf })) = some ⟨.overfill, 0#64⟩ := by
  decide +kernel

/-- The read-back of P2's end state. -/
theorem test_rdreg :
    let e := { running .cordic [8052, -15908, 7864] with
      phase := 12188032#32, x1 := 19849216#32, x2 := 25190400#32, y1 := 2673985#29, y2 := 3248736#29, qerr := 32768#16,
      mag := 32764#32 }
    [0x000, 0x002, 0x003, 0x010, 0x011, 0x012, 0x013, 0x014, 0x020, 0x021, 0x022, 0x023, 0x024, 0x025, 0x026].map
      (fun r => answerOf (exec (.rdreg r) (machine e))) =
    [0x00000101#64, 0x00000003#64, 0x00000800#64, 0x00001F74#64, 0xFFFFC1DC#64, 0x00001EB8#64, 0xFFFFFFFE#64,
      0x00000001#64, 0x00B9F980#64, 0x012EE000#64, 0x01806000#64, 0x0028CD41#64, 0x00319260#64, 0x00008000#64,
      0x00007FFC#64].map (fun d => some ⟨.ok, d⟩) := by decide +kernel

/-- CV10, CV20 to CV23, and P3's reads of a failed engine. -/
theorem test_rdreg_constants :
    [0x001, 0x030, 0x03B, 0x045, 0x046].map (fun r => answerOf (exec (.rdreg r) (machine failed))) =
      [some ⟨.badAddr, 0#64⟩, some ⟨.ok, 0x10#64⟩, some ⟨.ok, 0x2000#64⟩, some ⟨.ok, 0x146#64⟩, some ⟨.ok, 0x4DBE#64⟩] ∧
    answerOf (exec (.rdreg 0x000) (machine failed)) = some ⟨.ok, 0x12#64⟩ ∧
    answerOf (exec (.rdreg 0x011) (machine (loading [5] [0, 1]))) = some ⟨.badAddr, 0#64⟩ ∧
    answerOf (exec (.rdreg 0x013) (machine (loading [5] [0, 1]))) = some ⟨.ok, 0#64⟩ := by decide

/-- P3: `RDT 1` and `RDT 2` with two entries loaded; a negative entry is sign-extended to 32 bits only (R74). -/
theorem test_rdt :
    answerOf (exec (.rdt 1) (machine (loading [] [0, -1]))) = some ⟨.ok, 0x00000000FFFFFFFF#64⟩ ∧
    answerOf (exec (.rdt 2) (machine (loading [] [0, -1]))) = some ⟨.badAddr, 0#64⟩ := by decide

/-- P3: `INIT` with two table entries: `CFG_ERROR`, `MODE = FAILED`, `CFGERR = 3`, `DET` unchanged. -/
theorem test_init_fails :
    nextOf (exec (.init .cordic) (machine (loading [5] [0, 1]))) =
      some (answered (machine (loading [5] [0, 1])) { loading [5] [0, 1] with mode := .failed, cfgerr := .tblSize }
        .cfgError 0#64) := by decide

/-- The order of the checks of R176: a coefficient of 2^17 is out of range, and is found before the short table. -/
theorem test_init_order :
    answerOf (exec (.init .cordic) (machine (loading [131072] []))) = some ⟨.cfgError, 0#64⟩ ∧
    (engineOf (exec (.init .cordic) (machine (loading [131072] [])))).map Engine.cfgerr = some .coefRange := by decide

/-- P4: `RESET` clears the loop state and nothing else; CV17: outside `READY` it is illegal. -/
theorem test_reset :
    engineOf (exec .reset (machine { running .cordic [1, 2] with phase := 7#32, x1 := 1#32, qerr := 5#16, mag := 9#32 })) =
      some (running .cordic [1, 2]) ∧
    answerOf (exec .reset (machine failed)) = some ⟨.illegalMode, 0#64⟩ := by decide +kernel

/-! ## The text form -/

/-- R82: the text of the examples assembles to the words. -/
theorem test_assemble :
    [ "NOP", "PROC -1, -32768", "LDC -4798 ; b0", "LDT 101", "RDREG PHASE", "RDREG 0x020", "RDT 512", "INIT CORDIC",
      "RESET"].map (fun l => assemble l.toList) =
    [some [0x000000000000#48], some [0x10008000FFFF#48], some [0x2000FFFFED42#48], some [0x300000000065#48],
      some [0x402000000000#48], some [0x402000000000#48], some [0x520000000000#48], some [0x600000000001#48],
      some [0x700000000000#48]] := by decide +kernel

/-- R80: an operand out of range is refused; R81: `LDCS`. -/
theorem test_assemble_ranges :
    assemble "PROC 32768, 0".toList = none ∧ assemble "RDT 2048".toList = none ∧
    assemble "LDCS 8052, -15908, 7864".toList = some [0x200000001F74#48, 0x2000FFFFC1DC#48, 0x200000001EB8#48] := by
  decide +kernel

/-- R81: `CONFIG` is three `LDC`, 2048 `LDT` and an `INIT`. -/
theorem test_assemble_config :
    ((assemble "CONFIG CORDIC, 8052, -15908, 7864".toList).map
      (fun ws => (ws.length, [ws[2]?, ws[3]?, ws[4]?, ws[1028]?, ws[2051]?]))) =
    some (2052, [some 0x200000001EB8#48, some 0x300000000000#48, some 0x300000000065#48, some 0x30000000FF9B#48,
      some 0x600000000001#48]) := by decide +kernel

/-! ## Witnesses: states and operands that meet the hypotheses of the statements -/

theorem refTable_length : refTable.length = 2048 := by decide +kernel

theorem running_readyToSample (det : Detector) (a : Int) : (running det [a]).ReadyToSample :=
  ⟨rfl, by simp [running, freshLoop], by simp [running, freshLoop], by simp [running, freshLoop, refTable_length]⟩

theorem loading_inv_empty : (machine (loading [] [])).Inv :=
  ⟨by decide, by decide, by decide, by decide, by decide, (fun _ => rfl), (fun h => nomatch h), (fun h => nomatch h),
    (fun _ => ⟨rfl, rfl⟩), (fun _ => rfl)⟩

/-- The invariant holds of an unconfigured engine whose stores are full. -/
theorem loading_inv_full : (machine (loading [-131072, 0, 131071] refTable)).Inv :=
  ⟨by decide, by decide, by decide, by decide, by decide +kernel, (fun _ => rfl), (fun h => nomatch h),
    (fun h => nomatch h), (fun _ => ⟨rfl, rfl⟩), (fun _ => rfl)⟩

/-- The invariant holds of a failed engine. -/
theorem failed_inv : (machine failed).Inv :=
  ⟨by decide, by decide, by decide, by decide, by decide, (fun h => absurd rfl h), (fun _ => ⟨by decide, rfl⟩),
    (fun h => nomatch h), (fun _ => ⟨rfl, rfl⟩), (fun _ => rfl)⟩

/-- The invariant holds of a configured engine, the coefficients at the ends of their range. -/
theorem running_inv (det : Detector) : (machine (running det [-131072, 131071])).Inv := by
  cases det <;>
  exact ⟨by decide, by decide, by decide, by decide, by decide +kernel, (fun _ => rfl), (fun h => nomatch h),
    (fun _ => by decide +kernel), (fun h => absurd rfl h), (fun _ => rfl)⟩

/-- A `PROC` on a running engine completes, with an `OK` response. -/
theorem running_proc (det : Detector) (i q : Int) : ∃ (t : State) (r : Response),
    exec (.proc i q) (machine (running det [-131072, 131071])) = .next t ∧
      t.responses = (machine (running det [-131072, 131071])).responses ++ [r] ∧ r.status = .ok := by
  obtain ⟨_, _, _, _, _, _, h⟩ := execProc_of_readyToSample (s := machine (running det [-131072, 131071])) rfl
    (by simp [machine, running, freshLoop]) (by simp [machine, running, freshLoop])
    (by simp [machine, running, freshLoop, refTable_length]) i q
  exact ⟨_, _, h, rfl, rfl⟩

/-- Well-formed commands at the ends of every operand's range. -/
theorem witness_DecodeEncodeRoundTrip :
    ∀ i ∈ [Instr.nop, .proc (-32768) 32767, .proc 32767 (-32768), .ldc (-2147483648), .ldc 2147483647, .ldt (-32768),
      .ldt 32767, .rdreg 0, .rdreg 4095, .rdt 0, .rdt 2047, .init .rational, .init .cordic, .reset], i.WellFormed := by
  simp [Instr.WellFormed]; decide

theorem witness_EncodeDecodeRoundTrip : decode 0x10008000FFFF#48 = .command (.proc (-1) (-32768)) := by decide

theorem witness_DecoderMatchesOpcodeMap :
    0x57FF00000000#48 &&& Mnemonic.rdt.maskWord = Mnemonic.rdt.matchWord ∧
    0x580000000000#48 &&& Mnemonic.rdt.maskWord ≠ Mnemonic.rdt.matchWord := by decide

/-- Each clause at the edge of its range. -/
theorem witness_EveryWordHasOneOutcome :
    8 ≤ (8#4).toNat ∧ ¬ 8 ≤ (7#4).toNat ∧ Malformed 3#4 0#12 65536#32 ∧ ¬ Malformed 3#4 0#12 65535#32 ∧
    Malformed 5#4 2048#12 0#32 ∧ ¬ Malformed 5#4 2047#12 0#32 ∧ Malformed 6#4 0#12 2#32 ∧ ¬ Malformed 6#4 0#12 1#32 := by
  simp [Malformed]

theorem witness_AssembledWordsAreCommands :
    assemble "RESET".toList = some [0x700000000000#48] ∧ 0x700000000000#48 ∈ [0x700000000000#48] := by decide +kernel

theorem witness_StepRunsDecodedCommand :
    decode 0x200080000000#48 = .command (.ldc (-2147483648)) ∧ (Instr.ldc (-2147483648)).WellFormed := by decide

/-- A reserved opcode, and a malformed word of each of the eight. -/
theorem witness_IllegalWordsAreAnswered :
    8 ≤ (15#4).toNat ∧ Malformed 0#4 0#12 1#32 ∧ Malformed 1#4 1#12 0#32 ∧ Malformed 2#4 2048#12 0#32 ∧
    Malformed 3#4 0#12 65536#32 ∧ Malformed 4#4 0#12 1#32 ∧ Malformed 5#4 2048#12 0#32 ∧ Malformed 6#4 0#12 2#32 ∧
    Malformed 7#4 4095#12 0#32 := by
  simp [Malformed]

theorem witness_StepWithoutInputHoldsState : (machine failed).pending = [] := rfl

theorem witness_HardwareResetTakesResetState :
    ({ machine (running .cordic [1]) with pending := [.hardwareReset, .command 0#48] } : State).pending =
      .hardwareReset :: [.command 0#48] := rfl

theorem witness_AbandonedCommandEqualsResetAfterIt :
    step { machine (loading [] []) with pending := .command 0x200000000005#48 :: .hardwareReset :: [] } =
      .next { machine (loading [5] []) with pending := [.hardwareReset], responses := [⟨.ok, 0#64⟩] } := rfl

theorem witness_EveryCommandGetsOneResponse :
    (machine (loading [] [])).Inv ∧ (machine failed).Inv ∧ (machine (running .cordic [-131072, 131071])).Inv :=
  ⟨loading_inv_empty, failed_inv, running_inv .cordic⟩

/-- Two machines with one engine, of which one has answered before. -/
theorem witness_NoHiddenState :
    (machine failed).engine = ({ machine failed with responses := [⟨.cfgError, 0#64⟩] } : State).engine ∧
    (machine failed).pending = ({ machine failed with responses := [⟨.cfgError, 0#64⟩] } : State).pending := ⟨rfl, rfl⟩

theorem witness_LdcCommand :
    (loading [] []).mode = .unconf ∧ (loading [] []).coef.length < 3 ∧ (loading [1, 2] []).coef.length < 3 ∧
    Memory.wf (loading [1, 2, 3] []) ∧ (loading [1, 2, 3] []).coef.length = 3 := by decide

theorem witness_LdtCommand :
    (loading [] []).mode = .unconf ∧ (loading [] []).tbl.length < 2048 ∧ (loading [] (refTable.drop 1)).tbl.length < 2048 ∧
    Memory.wf (loading [] refTable) ∧ (loading [] refTable).tbl.length = 2048 := by decide +kernel

theorem witness_RdregCommand :
    Memory.wf (loading [1, 2, 3] []) ∧ registerWord (loading [1, 2, 3] []) 0x012 = some 3#32 ∧
    registerWord (loading [1, 2, 3] []) 0x046 = some 19902#32 ∧ registerWord (loading [1, 2] []) 0x012 = none ∧
    registerWord (loading [1, 2, 3] []) 0xFFF = none := by decide

theorem witness_RdtCommand :
    (loading [] [0, -1]).tbl[1]? = some 0xFFFF#16 ∧ (loading [] refTable).tbl[2047]? = some (BitVec.ofInt 16 (-101)) := by
  decide +kernel

theorem witness_InitCommand :
    (loading [-131072, 0, 131071] refTable).mode = .unconf ∧ cause (loading [-131072, 0, 131071] refTable) = .none := by
  decide +kernel

theorem witness_ResetCommand : (machine (running .rational [1])).engine.mode = .ready := rfl

theorem witness_ProcCommand :
    (running .rational [1]).ReadyToSample ∧ (running .cordic [1, 2]).ReadyToSample ∧
    (running .cordic [1, 2, 3]).ReadyToSample ∧ 2048#12 ≠ 0#12 ∧ (machine failed).engine.mode ≠ .ready := by decide +kernel

/-- The clauses at their edges: no entry; 512 entries, so that entry 0 exists and entry 512 does not; a full table with no
coefficient, and with four. -/
theorem witness_ProcStopsOnUnwrittenStorage :
    (freshLoop .rational [1#32] []).mode = .ready ∧
    (freshLoop .rational [1#32] []).tbl.length ≤ phaseIndex (freshLoop .rational [1#32] []).phase.toInt ∧
    (freshLoop .rational [1#32] (List.replicate 512 0#16)).tbl.length ≤ (phaseIndex (0#32).toInt + 512) % 2048 ∧
    phaseIndex (running .rational []).phase.toInt < (running .rational []).tbl.length ∧
    (phaseIndex (running .rational []).phase.toInt + 512) % 2048 < (running .rational []).tbl.length ∧
    (running .rational []).coef.length = 0 ∧ 3 < (running .rational [1, 2, 3, 4]).coef.length := by decide +kernel

theorem witness_TableWrittenOnlyByLdt :
    FitsSample (-32768) ∧ FitsSample 32767 ∧ (loading [] []).mode = .unconf ∧ (loading [] []).tbl.length < 2048 ∧
    (Instr.ldc 5).mnemonic ≠ .ldt ∧
    exec (.ldc 5) (machine (loading [] [])) = .next (answered (machine (loading [] [])) (loading [5] []) .ok 0#64) :=
  ⟨by decide, by decide, rfl, by decide, by decide, rfl⟩

theorem witness_CoefficientsWrittenOnlyByLdc :
    FitsWord (-2147483648) ∧ FitsWord 2147483647 ∧ (loading [1, 2] []).mode = .unconf ∧
    (loading [1, 2] []).coef.length < 3 ∧ (Instr.ldt 5).mnemonic ≠ .ldc ∧
    exec (.ldt 5) (machine (loading [] [])) = .next (answered (machine (loading [] [])) (loading [] [5]) .ok 0#64) :=
  ⟨by decide, by decide, rfl, by decide, by decide, rfl⟩

theorem witness_ReadsHaveNoSideEffect : (Instr.rdreg 0xFFF).mnemonic = .rdreg ∧ (Instr.rdt 2047).mnemonic = .rdt := by decide

/-- A command with each kind of error: `ILLEGAL_OP`, `BAD_ADDR`, `CFG_ERROR`. -/
theorem witness_ErrorsLeaveTheStateUnchanged :
    step (sent (machine failed) 0x800000000000#48) = .next (answered (machine failed) failed .illegalOp 0#64) ∧
    step (sent (machine failed) 0x500000000000#48) = .next (answered (machine failed) failed .badAddr 0#64) ∧
    step (sent (machine (loading [] [])) 0x600000000000#48) =
      .next (answered (machine (loading [] [])) failed .cfgError 0#64) := ⟨rfl, rfl, rfl⟩

theorem witness_CommandLegalityByMode :
    legal (Instr.proc 1 2).mnemonic (machine failed).engine.mode = false ∧
    legal Instr.nop.mnemonic (machine failed).engine.mode = true ∧
    exec .nop (machine failed) = .next (answered (machine failed) failed .ok 0#64) := ⟨rfl, rfl, rfl⟩

/-- A step of each kind that changes the mode. -/
theorem witness_ModeChangesOnlyByInitAndReset :
    step (sent (machine (loading [] [])) 0x600000000000#48) =
      .next (answered (machine (loading [] [])) failed .cfgError 0#64) ∧
    step { machine failed with pending := [.hardwareReset] } = .next (machine Engine.reset) ∧
    step { machine failed with pending := [.abandoned 0#48] } = .next (machine Engine.reset) ∧
    failed.mode ≠ (loading [] []).mode ∧ Engine.reset.mode ≠ failed.mode := ⟨rfl, rfl, rfl, by decide, by decide⟩

theorem witness_FailedIsLeftOnlyByHardwareReset :
    (machine failed).engine.mode = .failed ∧ decode 0x100000020001#48 = .command (.proc 1 2) ∧
    decode 0x000000000000#48 = .command .nop ∧
    ({ machine failed with pending := [.hardwareReset] } : State).pending = .hardwareReset :: [] := by decide

/-- Two commands on a running engine, of which one is refused by the mode. -/
theorem witness_ConfigurationIsFrozenInReady :
    let s : State := { machine (running .cordic [1]) with
      pending := [.command 0x200000000004#48, .command 0x700000000000#48] }
    s.engine.mode = .ready ∧ (∀ x ∈ s.pending, isCommand x = true) ∧
    Host.Core.run Sys2Proof.core 2 s =
      .next { machine (running .cordic [1]) with responses := [⟨.illegalMode, 0#64⟩, ⟨.ok, 0#64⟩] } :=
  ⟨rfl, by decide, rfl⟩

theorem witness_StepKeepsInvariant :
    (machine (loading [] [])).Inv ∧
    Sys2Proof.Machine.step (machine (loading [] [])) = .next (machine (loading [] [])) := ⟨loading_inv_empty, rfl⟩

theorem witness_StepNeverStops : (machine (running .cordic [-131072, 131071])).Inv := running_inv .cordic

theorem witness_ProcIsTotalInReady :
    (machine (running .cordic [-131072, 131071])).Inv ∧
    (machine (running .cordic [-131072, 131071])).engine.mode = .ready ∧ (Instr.proc (-32768) 32767).WellFormed :=
  ⟨running_inv .cordic, rfl, by decide⟩

/-- The loads of a configuration: three coefficients at the ends of their range and the reference table, in an order that
mixes them. -/
def someLoads : List Instr := [.ldc (-131072)] ++ ldtref ++ [.ldc 131071, .ldc 0]

theorem witness_BringUpConfiguresTheEngine :
    (someLoads.all fun i => isLoad i && i.wellFormed) = true ∧ coefficientsOf someLoads = [-131072, 131071, 0] ∧
    (∀ c ∈ coefficientsOf someLoads, -131072 ≤ c ∧ c ≤ 131071) ∧ (entriesOf someLoads).length = 2048 := by decide +kernel

theorem witness_ResetEqualsFreshConfiguration :
    (machine (running .cordic [-131072, 131071])).Inv ∧
    (machine (running .cordic [-131072, 131071])).engine.mode = .ready ∧
    (machine (loading [-131072, 0, 131071] refTable)).Inv ∧
    (machine (loading [-131072, 0, 131071] refTable)).engine.mode = .unconf ∧
    cause (machine (loading [-131072, 0, 131071] refTable)).engine = .none :=
  ⟨running_inv .cordic, rfl, loading_inv_full, rfl, by decide +kernel⟩

theorem witness_ResponseCarriesThePairBeforeTheUpdate : ∃ (t : State) (r : Response),
    exec (.proc 32767 0) (machine (running .cordic [-131072, 131071])) = .next t ∧
      t.responses = (machine (running .cordic [-131072, 131071])).responses ++ [r] ∧ r.status = .ok :=
  running_proc .cordic 32767 0

theorem witness_FirstSampleUsesPhaseZero :
    (running .cordic [1]).ReadyToSample ∧ (running .cordic [1]).phase = 0#32 ∧
    (running .cordic [1]).tbl[512]? = some 32767#16 ∧ (running .cordic [1]).tbl[0]? = some 0#16 := by decide +kernel

theorem witness_FirstSampleUsesPhaseZero_completes :
    ∃ t, exec (.proc 1 2) (machine (running .cordic [1])) = .next t := by
  obtain ⟨_, _, _, _, _, _, h⟩ := execProc_of_readyToSample (s := machine (running .cordic [1])) rfl
    (by simp [machine, running, freshLoop]) (by simp [machine, running, freshLoop])
    (by simp [machine, running, freshLoop, refTable_length]) 1 2
  exact ⟨_, h⟩

theorem witness_ZeroSampleGivesZeroError :
    (machine (running .cordic [1])).engine.ReadyToSample ∧ (machine (running .cordic [1])).engine.det = .cordic :=
  ⟨running_readyToSample .cordic 1, rfl⟩

theorem witness_ZeroInputLeavesClearedLoop :
    (running .cordic [1]).ReadyToSample ∧ (running .cordic [1]).clear = running .cordic [1] ∧
    ({ machine (running .cordic [1]) with
        pending := [.command 0x100000000000#48, .command 0x100000000000#48] } : State).pending =
      List.replicate 2 (.command (encode (.proc 0 0))) := ⟨running_readyToSample .cordic 1, rfl, by decide⟩

theorem witness_ProcShiftsTheDelayLine :
    (machine (running .cordic [-131072, 131071])).engine.ReadyToSample ∧
    ∃ t, exec (.proc 32767 0) (machine (running .cordic [-131072, 131071])) = .next t :=
  ⟨by decide +kernel, (running_proc .cordic 32767 0).imp fun _ h => h.choose_spec.1⟩

/-- The clauses at their edges: the largest sum, the smallest, the two ends that do not wrap or just wrap. -/
theorem witness_WrapReturnsToTheRange :
    ((-268435456 : Int) < 268435456 ∧ (268435456 : Int) < 268435456 + 268435455) ∧
    ((-268435456 : Int) < -268435455 ∧ (-268435455 : Int) + -268435456 ≤ -268435456) ∧
    ((-268435456 : Int) < 268435456 + 0 ∧ (268435456 : Int) + 0 ≤ 268435456) ∧
    ((268435456 : Int) < 268435456 + 1 ∧ (-268435455 : Int) + -1 ≤ -268435456) := by decide

/-- The first component inside its range, above it (M7) and below it (M6); the second inside, above and below. -/
theorem witness_MixerSaturatesTheResidual :
    FitsSample ((32767 * 32767 + 0 * 0) / 32768) ∧ ((-32768) * (-32768) + (-32768) * (-32768)) / 32768 > (32767 : Int) ∧
    ((-32768) * 32767 + (-32768) * 32767) / 32768 < (-32768 : Int) ∧ FitsSample ((503 * 32767 - 0 * 0) / 32768) ∧
    (32767 * 32767 - (-32768) * 32767) / 32768 > (32767 : Int) ∧
    ((-32768) * 32767 - 32767 * 32767) / 32768 < (-32768 : Int) := by decide

theorem witness_DegenerateInputGivesZero :
    (running .cordic [1]).det = .cordic ∧ (running .rational [1]).det = .rational := ⟨rfl, rfl⟩

theorem witness_RationalDetectorUpperHalf : ¬ ((1 : Int) = 0 ∧ (0 : Int) = 0) ∧ (0 : Int) ≤ 0 := by decide

theorem witness_RationalDetectorLowerHalf : (-1 : Int) < 0 ∧ (-32768 : Int) < 0 := by decide

theorem witness_RationalDetectorRange : (0 : Int) = 0 ∧ (-1 : Int) < 0 ∧ (1 : Int) ≠ 0 := by decide

theorem witness_CordicDetector : ¬ ((32767 : Int) = 0 ∧ (0 : Int) = 0) := by decide

theorem witness_FitsSample : FitsSample (-32768) ∧ FitsSample 32767 ∧ ¬ FitsSample 32768 := by decide

/-- The error at the two ends of its range, on a configured engine. -/
theorem witness_FeedForwardSumNeverSaturates :
    (running .cordic [-131072, 131071]).Inv ∧ (running .cordic [-131072, 131071]).mode = .ready ∧
    (running .cordic [-131072, 131071]).taps = some (.two (-131072) 131071) ∧ (-268435456 : Int) ≤ -268435456 ∧
    (268435456 : Int) ≤ 268435456 := ⟨running_inv .cordic, rfl, by decide, by decide, by decide⟩

theorem witness_RemainderIsFedForward :
    (machine (running .cordic [-131072, 131071])).Inv ∧
    (machine (running .cordic [-131072, 131071])).engine.mode = .ready ∧
    ∃ t, exec (.proc 1 2) (machine (running .cordic [-131072, 131071])) = .next t :=
  ⟨running_inv .cordic, rfl, (running_proc .cordic 1 2).imp fun _ h => h.choose_spec.1⟩

end Sys2Proof.Tests
end

section
/-! The parameters of the reference instantiation (00_scope.md R6, R7). -/

namespace Sys2Proof

/-- The clauses in the order (a) to (e) of 00_scope.md R7. -/
theorem Config.reference_consistent : Config.reference.Consistent := by
  have tableSize : Config.reference.n = 2 ^ Config.reference.logn ∧ 2 ≤ Config.reference.logn := by decide
  have stepShift : Config.reference.stepShift + Config.reference.logn = Config.reference.pf + 1 ∧
      1 ≤ Config.reference.stepShift := by decide
  have correctionFits : Config.reference.yw ≤ Config.reference.pf + 1 := by decide
  have phaseFits : Config.reference.pf + 3 ≤ Config.reference.pw := by decide
  have registersFit : Config.reference.sw ≤ 16 ∧ Config.reference.ew ≤ 32 ∧ Config.reference.pw ≤ 32 ∧
      Config.reference.yw ≤ 32 ∧ Config.reference.ff ≤ 31 := by decide
  exact ⟨tableSize, stepShift, correctionFits, phaseFits, registersFit⟩

/-- Both angle units (00_scope.md R15): π and one cycle, each from the number of bits that its unit has. -/
theorem Config.angle_constants_are_powers :
    Config.QT = 2 ^ Config.K ∧ Config.RAW_PI = 2 ^ (Config.K + 2) ∧
    Config.PHASE_PI = 2 ^ Config.PF ∧ Config.CYCLE = 2 ^ (Config.PF + 1) := by decide

/-- The clamp of 00_scope.md R6 is the whole range of a signed word of `YW` bits. -/
theorem Config.correction_bounds :
    Config.Y_MAX = 2 ^ (Config.YW - 1) - 1 ∧ Config.Y_MIN = -2 ^ (Config.YW - 1) := by decide

/-- The table has one entry per CORDIC iteration; its sum bounds the angle that the iterations
add up (41_phase_detector.md R117). -/
theorem Config.atan_length_and_sum :
    Config.ATAN.length = Config.ITERS ∧ Config.ATAN.sum = 17857 := by decide

/-- Settles O60: R7 clause by clause, then each derived constant of R6 from the parameters it is derived from. -/
theorem referenceParametersAreConsistent : Obligations.ReferenceParametersAreConsistent := by
  obtain ⟨⟨tableSize, -⟩, ⟨stepShift, -⟩, -⟩ := Config.reference_consistent
  obtain ⟨quarter, rawPi, phasePi, cycle⟩ := Config.angle_constants_are_powers
  obtain ⟨yMax, yMin⟩ := Config.correction_bounds
  exact ⟨Config.reference_consistent, tableSize, quarter, rawPi, phasePi, cycle, yMax, yMin,
    Nat.eq_sub_of_add_eq stepShift, Config.atan_length_and_sum⟩

end Sys2Proof
end

section
/-! The arithmetic behind 10_state.md R34: how far the raw angle of either detector, the CORDIC magnitude and the
wrapped phase can go. -/

namespace Sys2Proof.Machine

theorem pow2_pos (n : Nat) : 0 < pow2 n := Int.natCast_pos.mpr (Nat.two_pow_pos n)

theorem pow2_succ (n : Nat) : pow2 (n + 1) = 2 * pow2 n := by
  simp [pow2, pow_succ, mul_comm]

theorem pow2_mul_pow2 (m n : Nat) : pow2 m * pow2 n = pow2 (m + n) := by
  simp [pow2, pow_add]

/-- An arithmetic shift right keeps bounds that are multiples of the divisor (00_scope.md R11). -/
theorem asr_bounds {v c : Int} {n : Nat} (hlo : -(c * pow2 n) ≤ v) (hhi : v ≤ c * pow2 n) :
    -c ≤ asr v n ∧ asr v n ≤ c := by
  have hpos := pow2_pos n
  exact ⟨(Int.le_ediv_iff_mul_le hpos).mpr (by linarith), Int.ediv_le_of_le_mul hpos hhi⟩

theorem asr_nonneg {v : Int} {n : Nat} (h : 0 ≤ v) : 0 ≤ asr v n := Int.ediv_nonneg h (pow2_pos n).le

theorem asr_neg {v : Int} {n : Nat} (h : v < 0) : asr v n < 0 := Int.ediv_neg_of_neg_of_pos h (pow2_pos n)

/-- Also for the divisor 0, where the quotient is 0. -/
theorem ediv_bounds {a b c : Int} (hb : 0 ≤ b) (ha : 0 ≤ a) (hc : 0 ≤ c) (h : a ≤ c * b) : 0 ≤ a / b ∧ a / b ≤ c := by
  refine ⟨Int.ediv_nonneg ha hb, ?_⟩
  rcases hb.eq_or_lt with rfl | hpos
  · simpa using hc
  · exact Int.ediv_le_of_le_mul hpos h

theorem tdiv_bounds {a b c : Int} (hb : 0 ≤ b) (hc : 0 ≤ c) (hlo : -(c * b) ≤ a) (hhi : a ≤ c * b) :
    -c ≤ tdiv a b ∧ tdiv a b ≤ c := by
  unfold tdiv
  split_ifs with ha
  · have := ediv_bounds hb ha hc hhi
    omega
  · have := ediv_bounds (a := -a) hb (by omega) hc (by linarith)
    omega

/-! ## The rational detector -/

/-- The quotient of 41_phase_detector.md R112 and R113 is at most `quarter_turn` in size. -/
theorem shl_tdiv_bounds {n d : Int} (hlo : -d ≤ n) (hhi : n ≤ d) :
    -8192 ≤ tdiv (shl n Config.K) d ∧ tdiv (shl n Config.K) d ≤ 8192 := by
  refine tdiv_bounds (by omega) (by norm_num) ?_ ?_ <;> simp only [shl, Config.K_eq, pow2_13] <;> omega

theorem rationalAngle_upper (i : Int) {q : Int} (hq : 0 ≤ q) :
    0 ≤ rationalAngle i q ∧ rationalAngle i q ≤ 16384 := by
  have habs : 0 ≤ absInt i := absInt_eq_abs i ▸ abs_nonneg i
  have := shl_tdiv_bounds (n := q - absInt i) (d := q + absInt i) (by omega) (by omega)
  simp only [rationalAngle, hq, if_true, Config.QT_eq]
  omega

theorem rationalAngle_lower (i : Int) {q : Int} (hq : q < 0) :
    16384 ≤ rationalAngle i q ∧ rationalAngle i q ≤ 32768 := by
  have habs : 0 ≤ absInt i := absInt_eq_abs i ▸ abs_nonneg i
  have := shl_tdiv_bounds (n := q + absInt i) (d := absInt i - q) (by omega) (by omega)
  simp only [rationalAngle, not_le.mpr hq, if_false, Config.QT_eq]
  omega

/-- The raw angle of the rational detector is at most π, for every residual (41_phase_detector.md R114). -/
theorem detectRational_bounds (i q : Int) : -32768 ≤ detectRational i q ∧ detectRational i q ≤ 32768 := by
  have hangle : 0 ≤ rationalAngle i q ∧ rationalAngle i q ≤ 32768 := by
    rcases le_or_gt 0 q with hq | hq
    · have := rationalAngle_upper i hq
      omega
    · have := rationalAngle_lower i hq
      omega
  unfold detectRational
  split_ifs <;> omega

/-! ## The CORDIC rotator -/

/-- What holds of the rotator before step `j`: `x` has grown by at most `32768 / 2^k` in each step `k < j`, and `y`
never leaves the range it starts in (41_phase_detector.md R119). -/
structure Rotor.Bounded (j : Nat) (r : Rotor) : Prop where
  x_nonneg : 0 ≤ r.x
  x_le : r.x ≤ 98304 - 2 * pow2 (15 - j)
  y_ge : -32768 ≤ r.y
  y_le : r.y ≤ 32768

theorem preRotate_bounded {i q : Int} (hi : FitsSample i) (hq : FitsSample q) : (preRotate i q).Bounded 0 := by
  obtain ⟨hi1, hi2⟩ := hi
  obtain ⟨hq1, hq2⟩ := hq
  unfold preRotate
  split_ifs <;> constructor <;> simp only [Nat.sub_zero, pow2_15] <;> omega

/-- Before step `j` the second component's change, `x / 2^j`, is at most 32768: with `p = 2^j` and `h = 32768 / p` the
bound `98304 - 2 h` of `x` is below `32768 p` by `h (p - 1) (p - 2)`. -/
theorem Rotor.Bounded.asr_x_le {j : Nat} {r : Rotor} (hj : j ≤ 15) (h : r.Bounded j) : asr r.x j ≤ 32768 := by
  refine Int.ediv_le_of_le_mul (pow2_pos j) (h.x_le.trans ?_)
  have hp := pow2_pos j
  have hh := pow2_pos (15 - j)
  have hprod : pow2 (15 - j) * pow2 j = 32768 := by rw [pow2_mul_pow2, Nat.sub_add_cancel hj, pow2_15]
  have hfactor : 0 ≤ (pow2 j - 1) * (pow2 j - 2) := by
    rcases (show pow2 j = 1 ∨ 2 ≤ pow2 j by omega) with h1 | h2
    · simp [h1]
    · exact mul_nonneg (by omega) (by omega)
  have hexpand : pow2 (15 - j) * ((pow2 j - 1) * (pow2 j - 2)) = 32768 * pow2 j - (98304 - 2 * pow2 (15 - j)) := by
    linear_combination (pow2 j - 3) * hprod
  have hscaled := mul_nonneg hh.le hfactor
  omega

theorem rotate_bounded {j : Nat} {r : Rotor} (atan : Int) (hj : j < 15) (h : r.Bounded j) :
    (rotate j atan r).Bounded (j + 1) := by
  have hprod : pow2 (15 - j) * pow2 j = 32768 := by rw [pow2_mul_pow2, Nat.sub_add_cancel hj.le, pow2_15]
  have hhalf : pow2 (15 - j) = 2 * pow2 (15 - (j + 1)) := by rw [← pow2_succ]; congr 1; omega
  have hy := asr_bounds (v := r.y) (c := pow2 (15 - j)) (n := j) (hprod ▸ h.y_ge) (hprod ▸ h.y_le)
  have hx := h.asr_x_le hj.le
  have hx0 := asr_nonneg (n := j) h.x_nonneg
  obtain ⟨x_nonneg, x_le, y_ge, y_le⟩ := h
  unfold rotate
  split_ifs with hsign
  · have := asr_nonneg (n := j) hsign
    constructor <;> dsimp only <;> omega
  · have := asr_neg (n := j) (not_le.mp hsign)
    constructor <;> dsimp only <;> omega

theorem rotateAll_bounded (atans : List Int) {j : Nat} {r : Rotor} (hj : j + atans.length ≤ 15) (h : r.Bounded j) :
    (rotateAll j atans r).Bounded (j + atans.length) := by
  induction atans generalizing j r with
  | nil => exact h
  | cons a rest ih =>
    simp only [List.length_cons] at hj ⊢
    have := ih (by omega) (rotate_bounded a (by omega) h)
    rwa [show j + 1 + rest.length = j + (rest.length + 1) by omega] at this

theorem rotate_ang (j : Nat) (atan : Int) (r : Rotor) :
    (rotate j atan r).ang = r.ang + atan ∨ (rotate j atan r).ang = r.ang - atan := by
  unfold rotate; split_ifs <;> simp

/-- The angle moves by at most the sum of the arctangents (41_phase_detector.md R116, R119). -/
theorem rotateAll_ang_le {atans : List Int} (hatans : ∀ a ∈ atans, 0 ≤ a) (j : Nat) (r : Rotor) :
    |(rotateAll j atans r).ang| ≤ |r.ang| + atans.sum := by
  induction atans generalizing j r with
  | nil => simp [rotateAll]
  | cons a rest ih =>
    obtain ⟨ha, hrest⟩ := List.forall_mem_cons.mp hatans
    have hstep : |(rotate j a r).ang| ≤ |r.ang| + a := by
      rcases rotate_ang j a r with h | h <;> rw [h]
      · exact (abs_add_le _ _).trans_eq (by rw [abs_of_nonneg ha])
      · exact (abs_sub _ _).trans_eq (by rw [abs_of_nonneg ha])
    have htail := ih hrest (j + 1) (rotate j a r)
    rw [List.sum_cons, rotateAll]
    omega

theorem preRotate_ang_le (i q : Int) : |(preRotate i q).ang| ≤ 16384 := by
  unfold preRotate; split_ifs <;> simp

/-- The accumulated angle of the six steps, for every residual (41_phase_detector.md R119). -/
theorem rotateAll_ATAN_ang_le (i q : Int) : |(rotateAll 0 Config.ATAN (preRotate i q)).ang| ≤ 34241 := by
  have hstart := preRotate_ang_le i q
  have hsteps := rotateAll_ang_le (atans := Config.ATAN) (by decide) 0 (preRotate i q)
  rw [Config.atan_length_and_sum.2] at hsteps
  omega

theorem wrapRaw_bounds {a : Int} (h : |a| ≤ 34241) : -32768 < wrapRaw a ∧ wrapRaw a ≤ 32768 := by
  obtain ⟨hlo, hhi⟩ := abs_le.mp h
  unfold wrapRaw
  simp only [Config.RAW_PI_eq]
  split_ifs <;> omega

/-- The raw angle of the CORDIC detector, for every residual (41_phase_detector.md R121). -/
theorem detectCordic_angle_bounds (i q : Int) : -32768 < (detectCordic i q).1 ∧ (detectCordic i q).1 ≤ 32768 := by
  unfold detectCordic
  split_ifs with h0
  · decide
  · exact wrapRaw_bounds (rotateAll_ATAN_ang_le i q)

/-- The magnitude of the CORDIC detector (41_phase_detector.md R118): the rotator's `x` is at most 98304 and the gain
constant is below 2/3. -/
theorem detectCordic_magnitude_bounds {i q : Int} (hi : FitsSample i) (hq : FitsSample q) :
    0 ≤ (detectCordic i q).2 ∧ (detectCordic i q).2 < 65536 := by
  unfold detectCordic
  split_ifs with h0
  · decide
  · obtain ⟨x_nonneg, x_le, -, -⟩ := rotateAll_bounded Config.ATAN (by decide) (preRotate_bounded hi hq)
    have := pow2_pos (15 - (0 + Config.ATAN.length))
    simp only [asr, Config.CGAIN_eq, Config.CGAIN_FRAC_eq, pow2_15]
    omega

/-! ## The error and the phase -/

/-- The raw angle of whichever detector `DET` selects. -/
theorem detect_angle_bounds (e : Engine) (i q : Int) : -32768 ≤ (e.detect i q).1 ∧ (e.detect i q).1 ≤ 32768 := by
  rcases detect_engine e i q with ⟨-, h⟩ | ⟨-, h⟩ <;> rw [h]
  · exact detectRational_bounds i q
  · exact ⟨(detectCordic_angle_bounds i q).1.le, (detectCordic_angle_bounds i q).2⟩

/-- A raw angle of at most π scales to an error of at most π, unsaturated (41_phase_detector.md R123). -/
theorem scaleError_of_raw {raw : Int} (hlo : -32768 ≤ raw) (hhi : raw ≤ 32768) : scaleError raw = raw * 8192 := by
  unfold scaleError
  refine sat_of_mem ?_ ?_ <;>
    simp only [Config.ERR_SCALE_eq, Config.EW_eq, Nat.reduceSub, pow2_31] <;> omega

/-- One wrap brings a phase of the range back into it after any correction (43_process.md R154). -/
theorem wrapPhase_bounds {p y : Int} (hlo : -268435456 < p) (hhi : p ≤ 268435456) (ylo : -268435456 ≤ y)
    (yhi : y ≤ 268435455) : -268435456 < wrapPhase (p + y) ∧ wrapPhase (p + y) ≤ 268435456 := by
  unfold wrapPhase
  simp only [Config.PHASE_PI_eq, Config.CYCLE_eq]
  split_ifs <;> omega

/-- Settles O55: the bounds of the magnitude, and that a value in them survives the store to `MAG`. -/
theorem magnitudeFitsItsRegister : Obligations.MagnitudeFitsItsRegister := by
  intro i q hi hq
  obtain ⟨hlo, hhi⟩ := detectCordic_magnitude_bounds hi hq
  exact ⟨hlo, hhi, fun e => toNat_ofInt_32 hlo (by omega)⟩

end Sys2Proof.Machine
end

section
/-! The invariant of 10_state.md R34: reset has it, each operation over the engine keeps it, so each command and each
step does. Then the statements about reset and about the mode. -/

namespace Sys2Proof.Machine

open Sys2Proof.Spec

/-! ## Validation -/

/-- Validation reads the two stores and nothing else (44_config_commands.md R176). -/
theorem validate_congr {e f : Engine} (hc : f.coef = e.coef) (ht : f.tbl = e.tbl) : f.validate = e.validate := by
  have hcf : f.coefFill = e.coefFill := congrArg List.length hc
  have htf : f.tblFill = e.tblFill := congrArg List.length ht
  simp only [Engine.validate, hc, hcf, htf]

/-- The model's validation is the order of 44_config_commands.md R176 as the statements write it. -/
theorem validate_eq_cause (e : Engine) : e.validate = cause e := by
  have hrange : ∀ c : RegWord, (!decide (CoefInRange c.toInt)) =
      (decide (c.toInt < -131072) || decide (131071 < c.toInt)) := by
    intro c
    rw [Bool.eq_iff_iff]
    simp only [coefInRange_iff, Bool.not_eq_true', decide_eq_false_iff_not, Bool.or_eq_true, decide_eq_true_eq]
    omega
  have hany : (e.coef.any fun c => !decide (CoefInRange c.toInt)) =
      e.coef.any fun c => decide (c.toInt < -131072) || decide (131071 < c.toInt) := congrArg _ (funext hrange)
  rw [Engine.validate, hany]
  rfl

/-! ## One sample's loop state -/

/-- A sample in terms of what the detector gives: the raw angle and the engine with `MAG` written or not. -/
theorem sample_of_detect {e f : Engine} {i q oi oq raw : Int}
    (h : e.detect (mix i q oi oq).1 (mix i q oi oq).2 = (raw, f)) (t : Taps) :
    e.sample t i q oi oq = (scaleError raw,
      (f.advance t (scaleError raw)).2.setPhase (wrapPhase (e.phase.toInt + f.correction t (scaleError raw)))) := by
  simp only [Engine.sample, Engine.advance, h]

/-- The error of a sample is the scaled raw angle of its residual (43_process.md R155, steps 2 and 3). -/
theorem sample_error (e : Engine) (t : Taps) (i q oi oq : Int) :
    (e.sample t i q oi oq).1 = scaleError (e.detect (mix i q oi oq).1 (mix i q oi oq).2).1 := rfl

/-- The loop state that a sample leaves, but for `MAG` (43_process.md R155, steps 4 and 5; 42_loop_filter.md R137). -/
theorem sample_loop (e : Engine) (t : Taps) (i q oi oq : Int) :
    (e.sample t i q oi oq).2.phase =
      BitVec.ofInt 32 (wrapPhase (e.phase.toInt + e.correction t (e.sample t i q oi oq).1)) ∧
    (e.sample t i q oi oq).2.x1 = BitVec.ofInt 32 (e.sample t i q oi oq).1 ∧
    (e.sample t i q oi oq).2.x2 = e.x1 ∧
    (e.sample t i q oi oq).2.y1 = BitVec.ofInt 29 (e.correction t (e.sample t i q oi oq).1) ∧
    (e.sample t i q oi oq).2.y2 = e.y1 ∧
    (e.sample t i q oi oq).2.qerr = BitVec.ofInt 16 (remainder (e.yRaw t (e.sample t i q oi oq).1)) := by
  rcases detect_engine e (mix i q oi oq).1 (mix i q oi oq).2 with ⟨-, h⟩ | ⟨-, h⟩ <;> rw [sample_of_detect h] <;>
    exact ⟨rfl, rfl, rfl, rfl, rfl, rfl⟩

/-- With `DET = 0` a sample does not write `MAG` (41_phase_detector.md R120). -/
theorem sample_mag_rational {e : Engine} (hd : e.det = .rational) (t : Taps) (i q oi oq : Int) :
    (e.sample t i q oi oq).2.mag = e.mag := by
  rcases detect_engine e (mix i q oi oq).1 (mix i q oi oq).2 with ⟨-, h⟩ | ⟨hcordic, -⟩
  · rw [sample_of_detect h]
    rfl
  · simp [hd] at hcordic

/-- The error of a sample is at most π in phase units (10_state.md R34). -/
theorem sample_error_bounds (e : Engine) (t : Taps) (i q oi oq : Int) :
    -268435456 ≤ (e.sample t i q oi oq).1 ∧ (e.sample t i q oi oq).1 ≤ 268435456 := by
  obtain ⟨hlo, hhi⟩ := detect_angle_bounds e (mix i q oi oq).1 (mix i q oi oq).2
  rw [sample_error, scaleError_of_raw hlo hhi]
  omega

/-! ## The operations keep the invariant -/

theorem Engine.reset_inv : Engine.reset.Inv where
  phase_low := by decide
  phase_high := by decide
  x1_range := by decide
  x2_range := by decide
  stores := Memory.wf_reset
  cfgerr_none _ := rfl
  cfgerr_cause h := by cases h
  configured h := by cases h
  idle _ := ⟨rfl, Engine.reset_clear⟩
  mag_rational _ := rfl

section Operations
variable {e : Engine} (h : e.Inv)
include h

/-- A load in `UNCONF` changes a store and nothing else, so all that matters is that the store had room. -/
theorem Engine.Inv.of_load {f : Engine} (hm : e.mode = .unconf) (hf : f = { e with coef := f.coef, tbl := f.tbl })
    (hwf : Memory.wf f) : f.Inv := by
  obtain ⟨hdet, hclear⟩ := h.idle (by simp [hm])
  rw [hf] at hwf ⊢
  exact {
    phase_low := h.phase_low
    phase_high := h.phase_high
    x1_range := h.x1_range
    x2_range := h.x2_range
    stores := hwf
    cfgerr_none := h.cfgerr_none
    cfgerr_cause := fun hfailed => by simp [hm] at hfailed
    configured := fun hready => by simp [hm] at hready
    idle := fun _ => ⟨hdet, congrArg (fun g : Engine => { g with coef := f.coef, tbl := f.tbl }) hclear⟩
    mag_rational := h.mag_rational }

theorem Engine.Inv.pushCoef (hm : e.mode = .unconf) (room : e.coef.length < Config.MAX_TAPS) (v : Int) :
    (e.pushCoef v).Inv :=
  h.of_load hm rfl (Memory.wf_pushCoef v h.stores room)

theorem Engine.Inv.pushTbl (hm : e.mode = .unconf) (room : e.tbl.length < Config.N) (v : Int) : (e.pushTbl v).Inv :=
  h.of_load hm rfl (Memory.wf_pushTbl v h.stores room)

/-- A valid configuration with a cleared loop: after a successful `INIT`, and after `RESET` (10_state.md R46). -/
theorem Engine.Inv.start (hm : e.mode ≠ .failed) (hv : e.validate = .none) (det : Detector) : (e.start det).Inv where
  phase_low := by simp
  phase_high := by simp
  x1_range := by simp
  x2_range := by simp
  stores := Memory.wf_start det h.stores
  cfgerr_none _ := h.cfgerr_none hm
  cfgerr_cause hf := by cases hf
  configured _ := hv
  idle hr := absurd rfl hr
  mag_rational _ := rfl

theorem Engine.Inv.clear (hm : e.mode = .ready) : e.clear.Inv := by
  have hstart : e.start e.det = e.clear := by simp [Engine.start, Engine.clear, hm]
  exact hstart ▸ h.start (by simp [hm]) (h.configured hm) e.det

/-- A failing `INIT` leaves the loop state, which is zero in `UNCONF`, and the stores that failed. -/
theorem Engine.Inv.fail (hm : e.mode = .unconf) (hv : e.validate ≠ .none) : (e.fail e.validate).Inv := by
  obtain ⟨hdet, hclear⟩ := h.idle (by simp [hm])
  exact {
    phase_low := h.phase_low
    phase_high := h.phase_high
    x1_range := h.x1_range
    x2_range := h.x2_range
    stores := Memory.wf_fail _ h.stores
    cfgerr_none := fun hf => absurd rfl hf
    cfgerr_cause := fun _ => ⟨hv, rfl⟩
    configured := fun hr => by cases hr
    idle := fun _ => ⟨hdet, congrArg (fun g : Engine => g.fail e.validate) hclear⟩
    mag_rational := h.mag_rational }

/-- One sample: the wrapped phase, the new error and the error before it are in range (10_state.md R34). -/
theorem Engine.Inv.sample (hm : e.mode = .ready) (t : Taps) (i q oi oq : Int) : (e.sample t i q oi oq).2.Inv := by
  obtain ⟨hmode, hcfgerr, hdet, hcoef, htbl⟩ := sample_frame e t i q oi oq
  obtain ⟨hphase, hx1, hx2, -, -, -⟩ := sample_loop e t i q oi oq
  obtain ⟨elo, ehi⟩ := sample_error_bounds e t i q oi oq
  obtain ⟨ylo, yhi⟩ := correction_bounds e t (e.sample t i q oi oq).1
  obtain ⟨plo, phi⟩ := wrapPhase_bounds h.phase_low h.phase_high ylo yhi
  have hmode' : (e.sample t i q oi oq).2.mode = .ready := hmode.trans hm
  exact {
    phase_low := by rw [hphase, toInt_ofInt_32 (by omega) (by omega)]; exact plo
    phase_high := by rw [hphase, toInt_ofInt_32 (by omega) (by omega)]; exact phi
    x1_range := by rw [hx1, toInt_ofInt_32 (by omega) (by omega)]; exact ⟨elo, ehi⟩
    x2_range := by rw [hx2]; exact h.x1_range
    stores := Memory.wf_of_same hcoef htbl h.stores
    cfgerr_none := fun _ => hcfgerr.trans (h.cfgerr_none (by simp [hm]))
    cfgerr_cause := fun hf => by simp [hmode'] at hf
    configured := fun _ => (validate_congr hcoef htbl).trans (h.configured hm)
    idle := fun hr => absurd hmode' hr
    mag_rational := fun hr =>
      (sample_mag_rational (hdet.symm.trans hr) ..).trans (h.mag_rational (hdet.symm.trans hr)) }

end Operations

/-! ## Commands and steps -/

/-- Every command keeps the invariant: an error leaves the engine, and each effect is one of the operations above. -/
theorem exec_inv {i : Instr} {s t : State} (h : s.Inv) (hexec : exec i s = .next t) : t.Inv := by
  cases i with
  | nop =>
    obtain rfl := Host.Outcome.next.inj ((execNop_eq s).symm.trans hexec)
    exact h
  | proc i q =>
    rcases execProc_cases hexec with ⟨-, rfl⟩ | ⟨hm, oi, oq, taps, -, -, rfl⟩
    · exact h
    · exact Engine.Inv.sample h hm taps i q oi oq
  | ldc v =>
    rcases execLdc_cases hexec with ⟨-, rfl⟩ | ⟨-, -, rfl⟩ | ⟨hm, room, rfl⟩
    · exact h
    · exact h
    · exact Engine.Inv.pushCoef h hm room v
  | ldt v =>
    rcases execLdt_cases hexec with ⟨-, rfl⟩ | ⟨-, -, rfl⟩ | ⟨hm, room, rfl⟩
    · exact h
    · exact h
    · exact Engine.Inv.pushTbl h hm room v
  | rdreg r => rcases execRdreg_cases hexec with ⟨-, rfl⟩ | ⟨_, -, rfl⟩ <;> exact h
  | rdt k => rcases execRdt_cases hexec with ⟨-, rfl⟩ | ⟨_, -, rfl⟩ <;> exact h
  | init det =>
    rcases execInit_cases hexec with ⟨-, rfl⟩ | ⟨hm, hv, rfl⟩ | ⟨hm, hv, rfl⟩
    · exact h
    · exact Engine.Inv.start h (by simp [hm]) hv det
    · exact Engine.Inv.fail h hm hv
  | reset =>
    rcases execReset_cases hexec with ⟨-, rfl⟩ | ⟨hm, rfl⟩
    · exact h
    · exact Engine.Inv.clear h hm

/-- Settles O34: a hardware reset gives the reset state, an illegal word leaves the engine, a command is `exec_inv`. -/
theorem stepKeepsInvariant : Obligations.StepKeepsInvariant := by
  intro s t h hstep
  rcases step_cases hstep with ⟨-, rfl⟩ | ⟨_, rest, -, -, rfl⟩ | ⟨_, rest, _, -, -, rfl⟩ | ⟨_, rest, i, -, -, hexec⟩
  · exact h
  · exact Engine.reset_inv
  · exact h
  · exact exec_inv (s := s.withPending rest) h hexec

/-- Settles O33. -/
theorem resetStateHasInvariant : Obligations.ResetStateHasInvariant := Engine.reset_inv

/-! ## The mode -/

/-- Of the commands only `INIT` changes the mode, and only from `UNCONF` (60_exceptions.md R201). -/
theorem exec_mode {i : Instr} {s t : State} (hexec : exec i s = .next t) :
    t.engine.mode = s.engine.mode ∨
    ∃ det, i = .init det ∧ s.engine.mode = .unconf ∧ (t.engine.mode = .ready ∨ t.engine.mode = .failed) := by
  cases i with
  | nop =>
    obtain rfl := Host.Outcome.next.inj ((execNop_eq s).symm.trans hexec)
    exact .inl rfl
  | proc i q =>
    rcases execProc_cases hexec with ⟨-, rfl⟩ | ⟨-, oi, oq, taps, -, -, rfl⟩
    · exact .inl rfl
    · exact .inl (sample_frame s.engine taps i q oi oq).1
  | ldc v => rcases execLdc_cases hexec with ⟨-, rfl⟩ | ⟨-, -, rfl⟩ | ⟨-, -, rfl⟩ <;> exact .inl rfl
  | ldt v => rcases execLdt_cases hexec with ⟨-, rfl⟩ | ⟨-, -, rfl⟩ | ⟨-, -, rfl⟩ <;> exact .inl rfl
  | rdreg r => rcases execRdreg_cases hexec with ⟨-, rfl⟩ | ⟨_, -, rfl⟩ <;> exact .inl rfl
  | rdt k => rcases execRdt_cases hexec with ⟨-, rfl⟩ | ⟨_, -, rfl⟩ <;> exact .inl rfl
  | init det =>
    rcases execInit_cases hexec with ⟨-, rfl⟩ | ⟨hm, -, rfl⟩ | ⟨hm, -, rfl⟩
    · exact .inl rfl
    · exact .inr ⟨det, rfl, hm, .inl rfl⟩
    · exact .inr ⟨det, rfl, hm, .inr rfl⟩
  | reset => rcases execReset_cases hexec with ⟨-, rfl⟩ | ⟨-, rfl⟩ <;> exact .inl rfl

/-- Settles O30: without an input and on an illegal word the mode stays; a reset clears it; a command is `exec_mode`. -/
theorem modeChangesOnlyByInitAndReset : Obligations.ModeChangesOnlyByInitAndReset := by
  intro s t hstep hne
  rcases step_cases hstep with ⟨-, rfl⟩ | ⟨x, rest, hp, hx, rfl⟩ | ⟨_, rest, _, -, -, rfl⟩ | ⟨w, rest, i, hp, hd, hexec⟩
  · exact absurd rfl hne
  · rcases hx with rfl | ⟨w, rfl⟩
    · exact .inl ⟨rest, hp, rfl⟩
    · exact .inr (.inl ⟨w, rest, hp, rfl⟩)
  · exact absurd rfl hne
  · rcases exec_mode hexec with hsame | ⟨det, rfl, hm, ht⟩
    · exact absurd hsame hne
    · exact .inr (.inr ⟨w, det, rest, hp, hd, hm, ht⟩)

/-! ## Reset -/

theorem clear_eq_freshLoop {e : Engine} (hm : e.mode = .ready) (hc : e.cfgerr = .none) :
    e.clear = freshLoop e.det e.coef e.tbl := by
  simp only [Engine.clear, freshLoop, hm, hc]

theorem start_eq_freshLoop {e : Engine} (hc : e.cfgerr = .none) (det : Detector) :
    e.start det = freshLoop det e.coef e.tbl := by
  simp only [Engine.start, Engine.clear, freshLoop, hc]

theorem execReset_of_ready {s : State} (hm : s.engine.mode = .ready) : exec .reset s = succeed s s.engine.clear 0#64 := by
  simp [exec, execReset, hm]

theorem execInit_of_valid {s : State} (hm : s.engine.mode = .unconf) (hv : s.engine.validate = .none) (det : Detector) :
    exec (.init det) s = succeed s (s.engine.start det) 0#64 := by
  simp [exec, execInit, hm, hv]

/-- Settles O39: `RESET` clears and `INIT` clears and starts; the invariant gives the `CFGERR = 0` of the fresh state. -/
theorem resetEqualsFreshConfiguration : Obligations.ResetEqualsFreshConfiguration := by
  intro s h
  refine ⟨fun hm => ?_, fun det hm hv => ?_⟩
  · rw [execReset_of_ready hm, clear_eq_freshLoop hm (h.cfgerr_none (by simp [hm]))]
    rfl
  · rw [execInit_of_valid hm ((validate_eq_cause _).trans hv), start_eq_freshLoop (h.cfgerr_none (by simp [hm]))]
    rfl

/-- A read of a table entry that was not written (44_config_commands.md R174). -/
theorem execRdt_of_unwritten {s : State} {k : Nat} (h : s.engine.tbl.length ≤ k) :
    exec (.rdt k) s = raise s .badAddr := by
  simp [exec, execRdt, tblAt_of_ge h]

/-- A read of an address without a value (44_config_commands.md R173). -/
theorem execRdreg_of_no_value {s : State} {r : Nat} (h : s.engine.readAddr r = none) :
    exec (.rdreg r) s = raise s .badAddr := by
  simp [exec, execRdreg, h]

/-- `PROC` outside `READY` (60_exceptions.md R193). -/
theorem execProc_of_not_ready {s : State} (h : s.engine.mode ≠ .ready) (i q : Int) :
    exec (.proc i q) s = raise s .illegalMode := by
  simp [exec, execProc, h]

/-- Settles O13: the elements by definition; the stores cannot be observed because they are empty and `PROC` is illegal. -/
theorem resetStateIsTheSpecs : Obligations.ResetStateIsTheSpecs := by
  refine ⟨?elements, fun k => ?table, fun r hr => ?coefficients, fun i q => ?samples⟩
  case elements => exact ⟨rfl, rfl, rfl, rfl, rfl, rfl, rfl, rfl, rfl, rfl, rfl, rfl⟩
  case table => exact execRdt_of_unwritten (s := State.reset) (Nat.zero_le k)
  case coefficients =>
    have hnone : ∀ r ∈ [0x010, 0x011, 0x012], State.reset.engine.readAddr r = none := by decide
    exact execRdreg_of_no_value (hnone r hr)
  case samples => exact execProc_of_not_ready (s := State.reset) (by decide) i q

end Sys2Proof.Machine
end

section
/-! The byte-wide transport (20_memory.md R51): the six bytes of a word lie next to each other, so putting them together
gives the word back. -/

namespace Sys2Proof

/-- The transport carries the word whole: its bytes, joined from the most significant down, are the word. -/
theorem wordOfBytes_of_bytes (w : CmdWord) :
    wordOfBytes (w.extractLsb' 0 8) (w.extractLsb' 8 8) (w.extractLsb' 16 8) (w.extractLsb' 24 8) (w.extractLsb' 32 8)
      (w.extractLsb' 40 8) = w := by
  unfold wordOfBytes
  rw [BitVec.extractLsb'_append_extractLsb'_eq_extractLsb' (show 40 = 32 + 8 from rfl),
    BitVec.extractLsb'_append_extractLsb'_eq_extractLsb' (show 32 = 24 + 8 from rfl),
    BitVec.extractLsb'_append_extractLsb'_eq_extractLsb' (show 24 = 16 + 8 from rfl),
    BitVec.extractLsb'_append_extractLsb'_eq_extractLsb' (show 16 = 8 + 8 from rfl),
    BitVec.extractLsb'_append_extractLsb'_eq_extractLsb' (show 8 = 0 + 8 from rfl)]
  exact extract_all w

/-- The low byte of a word is the word modulo 256. -/
theorem extract_low_byte (w : CmdWord) : w.extractLsb' 0 8 = BitVec.ofNat 8 (w.toNat % 256) := by
  apply BitVec.eq_of_toNat_eq
  simp

/-- Settles O6: the decoder takes six bytes, and those of a word join to that word. -/
theorem byteTransportDecodesTheWord : Obligations.ByteTransportDecodesTheWord := by
  intro w rest
  refine ⟨?decodes, congrArg some (extract_low_byte w)⟩
  case decodes =>
    calc decodeBytes (wordToBytes w ++ rest)
        = some (decode (wordOfBytes (w.extractLsb' 0 8) (w.extractLsb' 8 8) (w.extractLsb' 16 8) (w.extractLsb' 24 8)
            (w.extractLsb' 32 8) (w.extractLsb' 40 8)), rest) := rfl
      _ = some (decode w, rest) := by rw [wordOfBytes_of_bytes]

end Sys2Proof
end

section
/-! Storage that nothing has written (20_memory.md R64), and reads without a side effect (20_memory.md R53). -/

namespace Sys2Proof.Machine

open Sys2Proof.Spec

/-! ## `PROC` on unwritten storage -/

/-- The lookup has no value exactly when one of its two entries was never written (40_sine_table_nco.md R101, R102). -/
theorem lookup_eq_none_iff (e : Engine) (p : Int) :
    e.lookup p = none ↔ e.tbl.length ≤ phaseIndex p ∨ e.tbl.length ≤ (phaseIndex p + 512) % 2048 := by
  unfold Engine.lookup Engine.oscQ
  rw [oscI_eq]
  rcases lt_or_ge ((phaseIndex p + 512) % 2048) e.tbl.length with hi | hi
  · rcases lt_or_ge (phaseIndex p) e.tbl.length with hq | hq
    · simp [tblAt_of_lt hi, tblAt_of_lt hq, hi, hq]
    · simp [tblAt_of_lt hi, tblAt_of_ge hq, hq]
  · simp [tblAt_of_ge hi, hi]

/-- There is no coefficient set exactly when none or more than three coefficients are loaded (10_state.md R24). -/
theorem taps_eq_none_iff (e : Engine) : e.taps = none ↔ e.coef.length = 0 ∨ 3 < e.coef.length := by
  rw [← Option.not_isSome_iff_eq_none, taps_isSome_iff]
  omega

theorem execProc_of_no_lookup {s : State} (hm : s.engine.mode = .ready)
    (hl : s.engine.lookup s.engine.phase.toInt = none) (i q : Int) :
    exec (.proc i q) s = .fault .unwrittenTableEntry := by
  simp [exec, execProc, hm, hl]

/-- The lookup of step 1 comes before the coefficients are read (43_process.md R155). -/
theorem execProc_of_no_taps {s : State} (hm : s.engine.mode = .ready)
    (hl : s.engine.lookup s.engine.phase.toInt ≠ none) (ht : s.engine.taps = none) (i q : Int) :
    exec (.proc i q) s = .fault .unwrittenCoefficient := by
  obtain ⟨⟨oi, oq⟩, hpair⟩ := Option.ne_none_iff_exists'.mp hl
  simp [exec, execProc, hm, hpair, ht]

/-- Settles O24: the table is looked at first, so the coefficients matter only when both entries were written. -/
theorem procStopsOnUnwrittenStorage : Obligations.ProcStopsOnUnwrittenStorage := by
  intro s i q hm
  refine ⟨fun hunwritten => ?table, fun hq hi hcoef => ?coefficients⟩
  case table => exact execProc_of_no_lookup hm ((lookup_eq_none_iff ..).mpr hunwritten) i q
  case coefficients =>
    have hlookup : s.engine.lookup s.engine.phase.toInt ≠ none := by
      rw [Ne, lookup_eq_none_iff]
      omega
    exact execProc_of_no_taps hm hlookup ((taps_eq_none_iff _).mpr hcoef) i q

/-! ## Reads -/

/-- A read of an address that has a value (44_config_commands.md R173). -/
theorem execRdreg_of_value {s : State} {r : Nat} {v : Int} (h : s.engine.readAddr r = some v) :
    exec (.rdreg r) s = succeed s s.engine (readData v) := by
  simp [exec, execRdreg, h]

/-- A read of a table entry that was written (44_config_commands.md R174). -/
theorem execRdt_of_written {s : State} {k : Nat} (h : k < s.engine.tbl.length) :
    exec (.rdt k) s = succeed s s.engine (readData (s.engine.tbl[k]).toInt) := by
  simp [exec, execRdt, tblAt_of_lt h]

/-- What a read answers is a function of the engine alone, and the engine is left as it is: one response fits every
machine with that engine, whatever it has answered before (20_memory.md R53). -/
theorem exec_read_of_engine {i : Instr} (hi : i.mnemonic = .rdreg ∨ i.mnemonic = .rdt ∨ i.mnemonic = .nop) (e : Engine) :
    ∃ r : Response, ∀ s : State, s.engine = e → exec i s = .next (answered s e r.status r.data) := by
  cases i with
  | nop => exact ⟨⟨.ok, 0#64⟩, by rintro s rfl; rfl⟩
  | rdreg r =>
    cases hv : e.readAddr r with
    | none => exact ⟨⟨.badAddr, 0#64⟩, by rintro s rfl; exact execRdreg_of_no_value hv⟩
    | some v => exact ⟨⟨.ok, readData v⟩, by rintro s rfl; exact execRdreg_of_value hv⟩
  | rdt k =>
    rcases lt_or_ge k e.tbl.length with hk | hk
    · exact ⟨⟨.ok, readData (e.tbl[k]).toInt⟩, by rintro s rfl; exact execRdt_of_written hk⟩
    · exact ⟨⟨.badAddr, 0#64⟩, by rintro s rfl; exact execRdt_of_unwritten hk⟩
  | proc | ldc | ldt | init | reset => simp [Instr.mnemonic] at hi

/-- Settles O27: the machine after the first answer has the same engine, so the second answer is the same response. -/
theorem readsHaveNoSideEffect : Obligations.ReadsHaveNoSideEffect := by
  intro i s hi
  obtain ⟨r, hread⟩ := exec_read_of_engine hi s.engine
  refine ⟨r, hread s rfl, ?again⟩
  case again =>
    rw [hread (answered s s.engine r.status r.data) rfl]
    simp [answered]

end Sys2Proof.Machine
end

section
/-! The encoding (30_encoding.md R73 to R82). Each mnemonic has two operand widths, one for `a` and one for `d`; what lies
above them must be zero. Decoding, encoding and the opcode map are each tied to these widths once. -/

namespace Sys2Proof

open Sys2Proof.Machine Sys2Proof.Spec

/-! ## Bit vectors -/

/-- The bits from `k` on are zero exactly when the value is below `2^k`. -/
theorem extract_high_eq_zero_iff {n : Nat} (k l : Nat) (hn : n = k + l) (x : BitVec n) :
    x.extractLsb' k l = 0#l ↔ x.toNat < 2 ^ k := by
  have hx : x.toNat / 2 ^ k < 2 ^ l := Nat.div_lt_of_lt_mul (by rw [← Nat.pow_add, ← hn]; exact x.isLt)
  rw [BitVec.toNat_eq, BitVec.extractLsb'_toNat, Nat.shiftRight_eq_div_pow, Nat.mod_eq_of_lt hx, BitVec.toNat_ofNat,
    Nat.zero_mod, Nat.div_eq_zero_iff_lt (Nat.two_pow_pos k)]

/-- The same for a mask that keeps the bits from `k` on. -/
theorem and_high_mask_eq_zero_iff {n : Nat} (k : Nat) (x : BitVec n) :
    x &&& (BitVec.allOnes n <<< k) = 0#n ↔ x.toNat < 2 ^ k := by
  constructor
  · intro h
    refine Nat.lt_pow_two_of_testBit _ fun i hi => ?_
    rw [BitVec.testBit_toNat]
    rcases lt_or_ge i n with hin | hin
    · have hbit := congrArg (fun v => v.getLsbD i) h
      simpa [hin, BitVec.getLsbD_eq_getElem, not_lt.mpr hi] using hbit
    · exact BitVec.getLsbD_of_ge x i hin
  · intro h
    apply BitVec.eq_of_getLsbD_eq
    intro i hin
    rcases lt_or_ge i k with hi | hi
    · simp [hi]
    · have hbit : x.getLsbD i = false := Nat.testBit_lt_two_pow (h.trans_le (Nat.pow_le_pow_right (by decide) hi))
      simp [hbit]

theorem eq_zero_iff_toNat_lt_one {n : Nat} (x : BitVec n) : x = 0#n ↔ x.toNat < 1 := by
  rw [BitVec.toNat_eq, BitVec.toNat_ofNat, Nat.zero_mod, Nat.lt_one_iff]

theorem zero_eq_of_toNat_lt_one {n : Nat} {x : BitVec n} (h : x.toNat < 1) : 0#n = x :=
  ((eq_zero_iff_toNat_lt_one x).mpr h).symm

/-- A value below `2^n` is its low `n` bits with zeros above them. -/
theorem zero_append_extract_low {m n : Nat} {x : BitVec (m + n)} (h : x.toNat < 2 ^ n) :
    0#m ++ x.extractLsb' 0 n = x := by
  rw [← (extract_high_eq_zero_iff n m (Nat.add_comm m n) x).mpr h]
  exact append_extract m x

theorem zero_append_toNat_lt {m n : Nat} (x : BitVec n) : (0#m ++ x).toNat < 2 ^ n := by
  rw [BitVec.toNat_append, BitVec.toNat_ofNat, Nat.zero_mod, Nat.zero_shiftLeft, Nat.zero_or]
  exact x.isLt

theorem bit_detectorOfBit (b : BitVec 1) : (detectorOfBit b).bit = b := by
  rcases BitVec.eq_zero_or_eq_one b with rfl | rfl <;> rfl

theorem fitsSample_toInt (x : BitVec 16) : FitsSample x.toInt := by
  have hlo := BitVec.le_two_mul_toInt (x := x)
  have hhi := BitVec.two_mul_toInt_lt (x := x)
  constructor <;> omega

theorem fitsWord_toInt (x : BitVec 32) : FitsWord x.toInt := by
  have hlo := BitVec.le_two_mul_toInt (x := x)
  have hhi := BitVec.two_mul_toInt_lt (x := x)
  constructor <;> omega

/-! ## The fields of a word -/

theorem pack_inj {op op' : BitVec 4} {a a' : BitVec 12} {d d' : BitVec 32} :
    pack op a d = pack op' a' d' ↔ op = op' ∧ a = a' ∧ d = d' := by
  refine ⟨fun h => ⟨?_, ?_, ?_⟩, by rintro ⟨rfl, rfl, rfl⟩; rfl⟩
  · simpa using congrArg opField h
  · simpa using congrArg aField h
  · simpa using congrArg dField h

theorem pack_and_pack (op op' : BitVec 4) (a a' : BitVec 12) (d d' : BitVec 32) :
    pack op a d &&& pack op' a' d' = pack (op &&& op') (a &&& a') (d &&& d') :=
  BitVec.and_append.trans (congrArg (· ++ (d &&& d')) BitVec.and_append)

/-- An opcode is reserved or that of one of the eight rows (30_encoding.md R78). -/
theorem opcode_cases (op : BitVec 4) : 8 ≤ op.toNat ∨ ∃ m : Mnemonic, op = m.opcode := by
  have rows : ∀ op : BitVec 4, 8 ≤ op.toNat ∨
      ∃ m ∈ [Mnemonic.nop, .proc, .ldc, .ldt, .rdreg, .rdt, .init, .reset], op = m.opcode := by decide
  exact (rows op).imp_right fun ⟨m, _, hm⟩ => ⟨m, hm⟩

theorem opcode_lt (m : Mnemonic) : m.opcode.toNat < 8 := by cases m <;> decide

/-! ## The formats -/

/-- How many low bits of `a` carry an operand (30_encoding.md R76). -/
def Mnemonic.aBits : Mnemonic → Nat
  | .rdreg => 12
  | .rdt => 11
  | .nop | .proc | .ldc | .ldt | .init | .reset => 0

/-- How many low bits of `d` carry operands (30_encoding.md R76). -/
def Mnemonic.dBits : Mnemonic → Nat
  | .proc | .ldc => 32
  | .ldt => 16
  | .init => 1
  | .nop | .rdreg | .rdt | .reset => 0

/-- The must-be-zero fields of the mnemonic's format are zero (30_encoding.md R76). -/
abbrev Mnemonic.Fits (m : Mnemonic) (a : BitVec 12) (d : BitVec 32) : Prop :=
  a.toNat < 2 ^ m.aBits ∧ d.toNat < 2 ^ m.dBits

/-- The command of a row with the operands that the fields carry (30_encoding.md R77). -/
def Mnemonic.command (m : Mnemonic) (a : BitVec 12) (d : BitVec 32) : Instr :=
  match m with
  | .nop => .nop
  | .proc => .proc (d.extractLsb' 0 16).toInt (d.extractLsb' 16 16).toInt
  | .ldc => .ldc d.toInt
  | .ldt => .ldt (d.extractLsb' 0 16).toInt
  | .rdreg => .rdreg a.toNat
  | .rdt => .rdt (a.extractLsb' 0 11).toNat
  | .init => .init (detectorOfBit (d.extractLsb' 0 1))
  | .reset => .reset

@[simp] theorem command_mnemonic (m : Mnemonic) (a : BitVec 12) (d : BitVec 32) : (m.command a d).mnemonic = m := by
  cases m <;> rfl

theorem malformed_iff (m : Mnemonic) (a : BitVec 12) (d : BitVec 32) : Malformed m.opcode a d ↔ ¬ m.Fits a d := by
  have ha := a.isLt
  have hd := d.isLt
  cases m <;>
    simp only [Malformed, Mnemonic.opcode, Mnemonic.Fits, Mnemonic.aBits, Mnemonic.dBits, BitVec.toNat_ofNat, ne_eq,
      eq_zero_iff_toNat_lt_one] <;>
    omega

theorem decode_of_reserved {op : BitVec 4} (h : 8 ≤ op.toNat) (a : BitVec 12) (d : BitVec 32) :
    decode (pack op a d) = .illegalOp := by
  obtain ⟨k, hk⟩ := Nat.exists_eq_add_of_le' h
  simp only [decode, opField_pack, hk]

/-- A field check in the decoder's form, bad fields first. -/
theorem fieldCheck_eq {bad fits : Prop} [Decidable bad] [Decidable fits] (h : bad ↔ ¬ fits) (x : Decoded) :
    (if bad then .illegalField else x) = if fits then x else .illegalField := by
  rw [ite_cond_congr (propext h), ite_not]

/-- The decoder on each row (30_encoding.md R79): the formats differ only in which bits they check. -/
theorem decode_opcode (m : Mnemonic) (a : BitVec 12) (d : BitVec 32) :
    decode (pack m.opcode a d) = if m.Fits a d then .command (m.command a d) else .illegalField := by
  unfold decode
  rw [opField_pack, aField_pack, dField_pack]
  have ha := a.isLt
  have hd := d.isLt
  have ha11 := extract_high_eq_zero_iff 11 1 rfl a
  have hd1 := extract_high_eq_zero_iff 1 31 rfl d
  have hd16 := extract_high_eq_zero_iff 16 16 rfl d
  cases m <;>
    refine fieldCheck_eq ?_ _ <;>
    simp only [ne_eq, eq_zero_iff_toNat_lt_one, ha11, hd1, hd16, Mnemonic.Fits, Mnemonic.aBits, Mnemonic.dBits] <;>
    omega

theorem decode_eq_command_iff {op : BitVec 4} {a : BitVec 12} {d : BitVec 32} {i : Instr} :
    decode (pack op a d) = .command i ↔
      op = i.mnemonic.opcode ∧ i.mnemonic.Fits a d ∧ i.mnemonic.command a d = i := by
  constructor
  · intro h
    rcases opcode_cases op with hop | ⟨m, rfl⟩
    · rw [decode_of_reserved hop] at h
      cases h
    · rw [decode_opcode] at h
      split_ifs at h with hfits
      obtain rfl := Decoded.command.inj h
      rw [command_mnemonic]
      exact ⟨rfl, hfits, rfl⟩
  · rintro ⟨rfl, hfits, hi⟩
    rw [decode_opcode, if_pos hfits, hi]

/-- Every command the decoder can build is well formed: a field of `n` bits holds only values of `n` bits. -/
theorem command_wellFormed (m : Mnemonic) (a : BitVec 12) (d : BitVec 32) : (m.command a d).WellFormed := by
  cases m with
  | nop => trivial
  | proc => exact ⟨fitsSample_toInt _, fitsSample_toInt _⟩
  | ldc => exact fitsWord_toInt d
  | ldt => exact fitsSample_toInt _
  | rdreg => exact a.isLt
  | rdt => exact (a.extractLsb' 0 11).isLt
  | init => trivial
  | reset => trivial

/-- The encoder puts the operand fields back where the decoder takes them from. -/
theorem encode_command {m : Mnemonic} {a : BitVec 12} {d : BitVec 32} (h : m.Fits a d) :
    encode (m.command a d) = pack m.opcode a d := by
  obtain ⟨ha, hd⟩ := h
  cases m with
  | nop => exact pack_inj.mpr ⟨rfl, zero_eq_of_toNat_lt_one ha, zero_eq_of_toNat_lt_one hd⟩
  | proc =>
    refine pack_inj.mpr ⟨rfl, zero_eq_of_toNat_lt_one ha, ?_⟩
    rw [BitVec.ofInt_toInt, BitVec.ofInt_toInt]
    exact append_extract (n := 16) 16 d
  | ldc => exact pack_inj.mpr ⟨rfl, zero_eq_of_toNat_lt_one ha, BitVec.ofInt_toInt⟩
  | ldt =>
    refine pack_inj.mpr ⟨rfl, zero_eq_of_toNat_lt_one ha, ?_⟩
    rw [BitVec.ofInt_toInt]
    exact zero_append_extract_low (m := 16) (n := 16) hd
  | rdreg =>
    refine pack_inj.mpr ⟨rfl, ?_, zero_eq_of_toNat_lt_one hd⟩
    rw [BitVec.ofNat_toNat, BitVec.setWidth_eq]
  | rdt =>
    refine pack_inj.mpr ⟨rfl, ?_, zero_eq_of_toNat_lt_one hd⟩
    rw [BitVec.ofNat_toNat, BitVec.setWidth_eq]
    exact zero_append_extract_low (m := 1) (n := 11) ha
  | init =>
    refine pack_inj.mpr ⟨rfl, zero_eq_of_toNat_lt_one ha, ?_⟩
    rw [bit_detectorOfBit]
    exact zero_append_extract_low (m := 31) (n := 1) hd
  | reset => exact pack_inj.mpr ⟨rfl, zero_eq_of_toNat_lt_one ha, zero_eq_of_toNat_lt_one hd⟩

/-- The word of a well-formed command: its must-be-zero fields are zero, and its fields carry the command's operands. -/
theorem encode_eq_pack {i : Instr} (h : i.WellFormed) :
    ∃ a d, encode i = pack i.mnemonic.opcode a d ∧ i.mnemonic.Fits a d ∧ i.mnemonic.command a d = i := by
  cases i with
  | nop => exact ⟨_, _, rfl, by decide, rfl⟩
  | proc i q =>
    obtain ⟨⟨hilo, hihi⟩, hqlo, hqhi⟩ := h
    refine ⟨_, _, rfl, ⟨Nat.zero_lt_one, BitVec.isLt _⟩, ?_⟩
    rw [Instr.mnemonic, Mnemonic.command, extract_append_low, BitVec.extractLsb'_append_eq_left, toInt_ofInt_16 hilo hihi,
      toInt_ofInt_16 hqlo hqhi]
  | ldc v =>
    exact ⟨_, _, rfl, ⟨Nat.zero_lt_one, BitVec.isLt _⟩, congrArg Instr.ldc (toInt_ofInt_32 h.1 h.2)⟩
  | ldt v =>
    refine ⟨_, _, rfl, ⟨Nat.zero_lt_one, zero_append_toNat_lt _⟩, ?_⟩
    rw [Instr.mnemonic, Mnemonic.command, extract_append_low, toInt_ofInt_16 h.1 h.2]
  | rdreg r => exact ⟨_, _, rfl, ⟨BitVec.isLt _, Nat.zero_lt_one⟩, congrArg Instr.rdreg (Nat.mod_eq_of_lt h)⟩
  | rdt k =>
    refine ⟨_, _, rfl, ⟨zero_append_toNat_lt _, Nat.zero_lt_one⟩, ?_⟩
    rw [Instr.mnemonic, Mnemonic.command, extract_append_low, BitVec.toNat_ofNat, Nat.mod_eq_of_lt h]
  | init det =>
    refine ⟨_, _, rfl, ⟨Nat.zero_lt_one, zero_append_toNat_lt _⟩, ?_⟩
    rw [Instr.mnemonic, Mnemonic.command, extract_append_low, detectorOfBit_bit]
  | reset => exact ⟨_, _, rfl, by decide, rfl⟩

theorem maskWord_eq_pack (m : Mnemonic) :
    m.maskWord = pack (BitVec.allOnes 4) (BitVec.allOnes 12 <<< m.aBits) (BitVec.allOnes 32 <<< m.dBits) := by
  cases m <;> decide

theorem matchWord_eq_pack (m : Mnemonic) : m.matchWord = pack m.opcode 0#12 0#32 := by
  cases m <;> decide

/-- A word matches a row of the opcode map exactly when it has the row's opcode and fits the row's format. -/
theorem and_maskWord_eq_matchWord_iff {m : Mnemonic} {op : BitVec 4} {a : BitVec 12} {d : BitVec 32} :
    pack op a d &&& m.maskWord = m.matchWord ↔ op = m.opcode ∧ m.Fits a d := by
  rw [maskWord_eq_pack, matchWord_eq_pack, pack_and_pack, pack_inj, BitVec.and_allOnes, and_high_mask_eq_zero_iff,
    and_high_mask_eq_zero_iff]

/-- A word decodes to a command of a mnemonic exactly when it has the mnemonic's opcode and fits its format. -/
theorem decode_mnemonic_iff {m : Mnemonic} {op : BitVec 4} {a : BitVec 12} {d : BitVec 32} :
    (∃ i : Instr, decode (pack op a d) = .command i ∧ i.mnemonic = m) ↔ op = m.opcode ∧ m.Fits a d := by
  constructor
  · rintro ⟨i, hi, rfl⟩
    obtain ⟨hop, hfits, -⟩ := decode_eq_command_iff.mp hi
    exact ⟨hop, hfits⟩
  · rintro ⟨rfl, hfits⟩
    exact ⟨m.command a d, by rw [decode_opcode, if_pos hfits], command_mnemonic m a d⟩

/-- The check that runs decides well-formedness. -/
theorem wellFormed_iff (i : Instr) : i.wellFormed = true ↔ i.WellFormed :=
  match i with
  | .nop => Laws.EncodeOpcode.nop.2
  | .proc i q => (Laws.EncodeOpcode.proc i q).2
  | .ldc v => (Laws.EncodeOpcode.ldc v).2
  | .ldt v => (Laws.EncodeOpcode.ldt v).2
  | .rdreg r => (Laws.EncodeOpcode.rdreg r).2
  | .rdt k => (Laws.EncodeOpcode.rdt k).2
  | .init det => (Laws.EncodeOpcode.init det).2
  | .reset => Laws.EncodeOpcode.reset.2

/-! ## The statements -/

/-- Settles O1: the word's fields fit its format and carry the operands, and the decoder reads them back. -/
theorem decodeEncodeRoundTrip : Obligations.DecodeEncodeRoundTrip := by
  intro i h
  obtain ⟨a, d, hword, hfits, hi⟩ := encode_eq_pack h
  rw [hword]
  exact decode_eq_command_iff.mpr ⟨rfl, hfits, hi⟩

/-- Settles O2: a decoded command is built from the word's own fields, and the encoder puts these back. -/
theorem encodeDecodeRoundTrip : Obligations.EncodeDecodeRoundTrip := by
  intro w i h
  rw [← pack_fields w] at h ⊢
  obtain ⟨hop, hfits, hi⟩ := decode_eq_command_iff.mp h
  constructor
  · rw [← hi]
    exact command_wellFormed ..
  · calc encode i = encode (i.mnemonic.command (aField w) (dField w)) := by rw [hi]
      _ = pack i.mnemonic.opcode (aField w) (dField w) := encode_command hfits
      _ = pack (opField w) (aField w) (dField w) := by rw [hop]

/-- Settles O3: matching a row and decoding to its mnemonic are one condition on the fields; a word that matches two rows
would decode to two mnemonics. -/
theorem decoderMatchesOpcodeMap : Obligations.DecoderMatchesOpcodeMap := by
  have rows (w : CmdWord) (m : Mnemonic) :
      (∃ i : Instr, decode w = .command i ∧ i.mnemonic = m) ↔ w &&& m.maskWord = m.matchWord := by
    rw [← pack_fields w]
    exact decode_mnemonic_iff.trans and_maskWord_eq_matchWord_iff.symm
  refine fun w m => ⟨rows w m, fun m' h h' => ?_⟩
  obtain ⟨i, hi, rfl⟩ := (rows w m).mpr h
  obtain ⟨i', hi', rfl⟩ := (rows w m').mpr h'
  rw [Decoded.command.inj (hi.symm.trans hi')]

/-- A word with one of the eight opcodes is malformed or decodes to its command (30_encoding.md R79). -/
theorem outcome_of_opcode (m : Mnemonic) (a : BitVec 12) (d : BitVec 32) :
    (Malformed m.opcode a d ∧ decode (pack m.opcode a d) = .illegalField) ∨
    (¬ Malformed m.opcode a d ∧ decode (pack m.opcode a d) = .command (m.command a d)) := by
  rw [malformed_iff, not_not, decode_opcode]
  by_cases h : m.Fits a d
  · exact .inr ⟨h, if_pos h⟩
  · exact .inl ⟨h, if_neg h⟩

theorem decode_eq_nop_iff (op : BitVec 4) (a : BitVec 12) (d : BitVec 32) :
    decode (pack op a d) = .command .nop ↔ pack op a d = 0#48 := by
  have zero : (0#48 : CmdWord) = pack Mnemonic.nop.opcode 0#12 0#32 := by decide
  rw [zero, pack_inj, decode_eq_command_iff, eq_zero_iff_toNat_lt_one a, eq_zero_iff_toNat_lt_one d]
  exact ⟨fun ⟨hop, ⟨ha, hd⟩, _⟩ => ⟨hop, ha, hd⟩, fun ⟨hop, ha, hd⟩ => ⟨hop, ⟨ha, hd⟩, rfl⟩⟩

/-- Settles O4: a reserved opcode is illegal whatever the fields; with one of the eight the field check decides. -/
theorem everyWordHasOneOutcome : Obligations.EveryWordHasOneOutcome := by
  intro op a d
  have packed : ∀ w : CmdWord, ∃ op' a' d', w = pack op' a' d' := fun w => ⟨_, _, _, (pack_fields w).symm⟩
  have nop := decode_eq_nop_iff op a d
  rcases opcode_cases op with hop | ⟨m, rfl⟩
  · have hd := decode_of_reserved hop a d
    have hlt := not_lt.mpr hop
    simp [hd, hop, hlt, packed, ← nop]
  · have hlt := opcode_lt m
    rcases outcome_of_opcode m a d with ⟨hm, hd⟩ | ⟨hm, hd⟩
    · simp [hd, hlt, hm, packed, ← nop]
    · simp [hd, hlt, hm, packed, ← nop]

/-- Settles O5: the thirteen commands are well formed and encode to their words; decoding is then O1. -/
theorem exampleWordsDecode : Obligations.ExampleWordsDecode := by
  intro p hp
  suffices h : p.2.wellFormed = true ∧ encode p.2 = p.1 by
    obtain ⟨hwf, hword⟩ := h
    exact ⟨hword ▸ decodeEncodeRoundTrip p.2 ((wellFormed_iff p.2).mp hwf), hword⟩
  revert p hp
  decide

end Sys2Proof
end

section
/-! The assembler (30_encoding.md R80, R81): the range check of a line covers every command it stands for, those of the
pseudo-commands included. -/

namespace Sys2Proof.Machine

/-- A line that is accepted stands for commands in their ranges. -/
theorem wellFormed_of_parseLine {line : Text} {l : List Instr} (h : parseLine line = some l) :
    ∀ i ∈ l, i.WellFormed := by
  unfold parseLine at h
  extract_lets body at h
  split_ifs at h
  · obtain rfl := Option.some.inj h
    simp
  · split at h
    · split_ifs at h with hall
      obtain rfl := Option.some.inj h
      exact fun i hi => (wellFormed_iff i).mp (List.all_eq_true.mp hall i hi)
    · cases h

/-- Settles O7: the words are those of well-formed commands, which decode to these commands. -/
theorem assembledWordsAreCommands : Obligations.AssembledWordsAreCommands := by
  intro line ws h w hw
  obtain ⟨l, hparse, rfl⟩ := Option.map_eq_some_iff.mp h
  obtain ⟨i, hi, rfl⟩ := List.mem_map.mp hw
  have hwf := wellFormed_of_parseLine hparse i hi
  exact ⟨i, hwf, decodeEncodeRoundTrip i hwf⟩

end Sys2Proof.Machine
end

section
/-! The command port (30_encoding.md R71, R72, R74; 60_exceptions.md R202): in a state of the invariant every input is
carried out, and every command word is answered once. -/

namespace Sys2Proof.Machine

open Sys2Proof.Spec

/-- Settles O8: the step takes the word from the channel, which leaves the machine as it was before the word was sent. -/
theorem stepRunsDecodedCommand : Obligations.StepRunsDecodedCommand := by
  intro s w i hdecode _
  exact step_of_command (s := sent s w) rfl hdecode

/-! ## No command stops -/

theorem loaded_of_validate {e : Engine} (h : e.validate = .none) : e.coef.length ≠ 0 ∧ e.tbl.length = 2048 := by
  unfold Engine.validate at h
  split_ifs at h with hnone hrange hsize
  exact ⟨hnone, not_not.mp hsize⟩

/-- In `READY` the invariant gives a sample all it needs (10_state.md R24, R26; 44_config_commands.md R176). -/
theorem Engine.Inv.readyToSample {e : Engine} (h : e.Inv) (hm : e.mode = .ready) : e.ReadyToSample := by
  obtain ⟨hloaded, hfull⟩ := loaded_of_validate (h.configured hm)
  exact ⟨hm, Nat.one_le_iff_ne_zero.mpr hloaded, h.stores.1, hfull⟩

theorem raise_completes (s : State) (st : Status) : Completes (raise s st) := ⟨_, rfl⟩

theorem succeed_completes (s : State) (e : Engine) (d : RspData) : Completes (succeed s e d) := ⟨_, rfl⟩

theorem raiseCfgError_completes (s : State) (c : CfgErr) : Completes (raiseCfgError s c) := ⟨_, rfl⟩

theorem completes_ite {c : Prop} [Decidable c] {o o' : Host.Outcome State Fault Refusal} (h : Completes o)
    (h' : Completes o') : Completes (if c then o else o') := by
  split_ifs
  · exact h
  · exact h'

theorem read_completes {i : Instr} (hi : i.mnemonic = .rdreg ∨ i.mnemonic = .rdt ∨ i.mnemonic = .nop) (s : State) :
    Completes (exec i s) := by
  obtain ⟨r, hread⟩ := exec_read_of_engine hi s.engine
  exact ⟨_, hread s rfl⟩

/-- Every command answers: only `PROC` has other outcomes, and a configured engine does not meet them. -/
theorem exec_completes {s : State} (h : s.Inv) (i : Instr) : Completes (exec i s) := by
  cases i with
  | nop => exact read_completes (.inr (.inr rfl)) s
  | rdreg r => exact read_completes (.inl rfl) s
  | rdt k => exact read_completes (.inr (.inl rfl)) s
  | proc i q =>
    by_cases hm : s.engine.mode = .ready
    · obtain ⟨-, hone, hthree, hfull⟩ := h.readyToSample hm
      obtain ⟨oi, oq, taps, -, -, -, hexec⟩ := execProc_of_readyToSample hm hone hthree hfull i q
      exact ⟨_, hexec⟩
    · rw [execProc_of_not_ready hm]
      exact raise_completes ..
  | ldc v => exact completes_ite (raise_completes ..) (completes_ite (raise_completes ..) (succeed_completes ..))
  | ldt v => exact completes_ite (raise_completes ..) (completes_ite (raise_completes ..) (succeed_completes ..))
  | init det =>
    refine completes_ite (raise_completes ..) ?_
    cases s.engine.validate with
    | none => exact succeed_completes ..
    | noCoef | coefRange | tblSize => exact raiseCfgError_completes ..
  | reset => exact completes_ite (raise_completes ..) (succeed_completes ..)

/-- Settles O35: an illegal word is answered, a reset is taken, and a command is `exec_completes`. -/
theorem stepNeverStops : Obligations.StepNeverStops := by
  intro s h
  match hp : s.pending with
  | [] => exact ⟨_, step_of_no_input hp⟩
  | .hardwareReset :: rest => exact ⟨_, step_of_hardwareReset hp⟩
  | .abandoned w :: rest => exact ⟨_, step_of_abandoned hp⟩
  | .command w :: rest =>
    match hd : decode w with
    | .illegalOp => exact ⟨_, step_of_illegalOp hp hd⟩
    | .illegalField => exact ⟨_, step_of_illegalField hp hd⟩
    | .command i =>
      rw [step_of_command hp hd]
      exact exec_completes (s := s.withPending rest) h i

/-! ## One response -/

/-- The machine `t` is `s` after one answer: the inputs still to come are the same, and one response has been added, whose
data is 0 unless its status is `OK` (30_encoding.md R74). -/
def AnsweredOnce (s t : State) : Prop :=
  ∃ r : Response, t.pending = s.pending ∧ t.responses = s.responses ++ [r] ∧ (r.status ≠ .ok → r.data = 0#64)

theorem answeredOnce_ok (s : State) (e : Engine) (d : RspData) : AnsweredOnce s ((s.withEngine e).respond .ok d) :=
  ⟨⟨.ok, d⟩, rfl, rfl, fun h => absurd rfl h⟩

theorem answeredOnce_zero (s : State) (e : Engine) (st : Status) : AnsweredOnce s ((s.withEngine e).respond st 0#64) :=
  ⟨⟨st, 0#64⟩, rfl, rfl, fun _ => rfl⟩

/-- Every command answers once: with data only when it completes. -/
theorem exec_answeredOnce {i : Instr} {s t : State} (hexec : exec i s = .next t) : AnsweredOnce s t := by
  cases i with
  | nop =>
    obtain rfl := Host.Outcome.next.inj ((execNop_eq s).symm.trans hexec)
    exact answeredOnce_ok ..
  | proc i q =>
    rcases execProc_cases hexec with ⟨-, rfl⟩ | ⟨-, oi, oq, taps, -, -, rfl⟩
    · exact answeredOnce_zero ..
    · exact answeredOnce_ok ..
  | ldc v => rcases execLdc_cases hexec with ⟨-, rfl⟩ | ⟨-, -, rfl⟩ | ⟨-, -, rfl⟩ <;> exact answeredOnce_zero ..
  | ldt v => rcases execLdt_cases hexec with ⟨-, rfl⟩ | ⟨-, -, rfl⟩ | ⟨-, -, rfl⟩ <;> exact answeredOnce_zero ..
  | rdreg r =>
    rcases execRdreg_cases hexec with ⟨-, rfl⟩ | ⟨v, -, rfl⟩
    · exact answeredOnce_zero ..
    · exact answeredOnce_ok ..
  | rdt k =>
    rcases execRdt_cases hexec with ⟨-, rfl⟩ | ⟨v, -, rfl⟩
    · exact answeredOnce_zero ..
    · exact answeredOnce_ok ..
  | init det => rcases execInit_cases hexec with ⟨-, rfl⟩ | ⟨-, -, rfl⟩ | ⟨-, -, rfl⟩ <;> exact answeredOnce_zero ..
  | reset => rcases execReset_cases hexec with ⟨-, rfl⟩ | ⟨-, rfl⟩ <;> exact answeredOnce_zero ..

/-- Settles O14: the step completes by O35; an illegal word is answered with data 0, a command by `exec_answeredOnce`. -/
theorem everyCommandGetsOneResponse : Obligations.EveryCommandGetsOneResponse := by
  intro s w h
  suffices hanswered : ∃ t, step (sent s w) = .next t ∧ AnsweredOnce s t by
    obtain ⟨t, hstep, r, hpending, hresponses, hdata⟩ := hanswered
    exact ⟨t, r, hstep, hpending, hresponses, hdata⟩
  obtain ⟨t, hstep⟩ := stepNeverStops (sent s w) h
  refine ⟨t, hstep, ?_⟩
  match hd : decode w with
  | .illegalOp =>
    obtain rfl := Host.Outcome.next.inj ((step_of_illegalOp (s := sent s w) rfl hd).symm.trans hstep)
    exact answeredOnce_zero s s.engine .illegalOp
  | .illegalField =>
    obtain rfl := Host.Outcome.next.inj ((step_of_illegalField (s := sent s w) rfl hd).symm.trans hstep)
    exact answeredOnce_zero s s.engine .illegalField
  | .command i => exact exec_answeredOnce ((step_of_command (s := sent s w) rfl hd).symm.trans hstep)

end Sys2Proof.Machine
end

section
/-! The oscillator (40_sine_table_nco.md R100): the table index of a phase is the nearest table step, up to whole cycles. -/

namespace Sys2Proof.Machine

/-- The table step nearest to a phase, a half rounding up, before it is taken modulo the table
(40_sine_table_nco.md R100). -/
def nearestStep (p : Int) : Int := (p + 131072) / 262144

theorem nearestStep_within_half (p : Int) :
    -131072 ≤ p - nearestStep p * 262144 ∧ p - nearestStep p * 262144 < 131072 := by
  unfold nearestStep
  omega

theorem phaseIndex_eq (p : Int) : (phaseIndex p : Int) = nearestStep p % 2048 :=
  Int.toNat_of_nonneg (Int.emod_nonneg _ (by decide))

/-- The steps that the index leaves out are whole cycles of the table. -/
theorem phaseIndex_add_cycles (p : Int) : (phaseIndex p : Int) + nearestStep p / 2048 * 2048 = nearestStep p := by
  rw [phaseIndex_eq]
  exact Int.emod_add_ediv_mul _ _

/-- Settles O45: the index is the nearest step less the whole cycles in it, and one cycle is 2048 steps of 262144. -/
theorem phaseIndexIsNearestStep : Obligations.PhaseIndexIsNearestStep := by
  refine ⟨fun p => ⟨phaseIndex_lt p, phaseIndex_eq p, nearestStep p / 2048, ?near⟩, ?corners⟩
  case near =>
    have hstep : (phaseIndex p : Int) * 262144 + nearestStep p / 2048 * 536870912 = nearestStep p * 262144 := by
      linarith [phaseIndex_add_cycles p]
    rw [hstep]
    exact nearestStep_within_half p
  case corners => decide

end Sys2Proof.Machine
end

section
/-! The rational detector (41_phase_detector.md R111 to R114, R125): its angle is at most π in size before the sign, and
equals π on the negative `q` axis only. -/

namespace Sys2Proof.Machine

/-- The quotient of 41_phase_detector.md R112 and R113 in the library's terms (00_scope.md R11, R12). -/
theorem tdiv_shl_K (n d : Int) : tdiv (shl n Config.K) d = Int.tdiv (n * 8192) d := by
  rw [tdiv_eq_tdiv, shl, Config.K_eq, pow2_13]

/-- The quotient stays within a quarter turn (41_phase_detector.md R112, R113). -/
theorem quotient_bounds {n d : Int} (hlo : -d ≤ n) (hhi : n ≤ d) :
    -8192 ≤ Int.tdiv (n * 8192) d ∧ Int.tdiv (n * 8192) d ≤ 8192 := by
  rw [← tdiv_shl_K]
  exact shl_tdiv_bounds hlo hhi

/-- Rounding toward zero keeps a quotient above -8192 there (41_phase_detector.md R125; 92_eei_decisions.md D15). -/
theorem quotient_gt {n d : Int} (hd : 0 < d) (hlo : -d < n) : -8192 < Int.tdiv (n * 8192) d := by
  rcases le_or_gt 0 n with hn | hn
  · have : 0 ≤ Int.tdiv (n * 8192) d := Int.tdiv_nonneg (by omega) hd.le
    omega
  · have hneg : Int.tdiv (n * 8192) d = -(-(n * 8192) / d) := by
      rw [← Int.tdiv_eq_ediv_of_nonneg (by omega), Int.neg_tdiv, neg_neg]
    have : -(n * 8192) / d < 8192 := Int.ediv_lt_of_lt_mul hd (by omega)
    omega

/-! ## The angle before its sign -/

theorem rationalAngle_of_nonneg (i : Int) {q : Int} (hq : 0 ≤ q) :
    rationalAngle i q = 8192 - Int.tdiv ((q - |i|) * 8192) (q + |i|) := by
  rw [rationalAngle, if_pos hq, tdiv_shl_K, absInt_eq_abs]

theorem rationalAngle_of_neg (i : Int) {q : Int} (hq : q < 0) :
    rationalAngle i q = 24576 - Int.tdiv ((q + |i|) * 8192) (|i| - q) := by
  rw [rationalAngle, if_neg hq.not_ge, tdiv_shl_K, absInt_eq_abs]
  rfl

/-- `i` enters the angle only by its size (41_phase_detector.md R125). -/
theorem rationalAngle_neg (i q : Int) : rationalAngle (-i) q = rationalAngle i q := by
  simp only [rationalAngle, absInt_eq_abs, abs_neg]

theorem rationalAngle_nonneg (i q : Int) : 0 ≤ rationalAngle i q := by
  rcases le_or_gt 0 q with hq | hq
  · exact (rationalAngle_upper i hq).1
  · exact le_trans (by decide) (rationalAngle_lower i hq).1

/-- Off the `q` axis the angle does not reach π. -/
theorem rationalAngle_lt {i : Int} (hi : i ≠ 0) (q : Int) : rationalAngle i q < 32768 := by
  rcases le_or_gt 0 q with hq | hq
  · exact (rationalAngle_upper i hq).2.trans_lt (by decide)
  · have habs : 0 < |i| := abs_pos.mpr hi
    have := quotient_gt (n := q + |i|) (d := |i| - q) (by omega) (by omega)
    rw [rationalAngle_of_neg i hq]
    omega

theorem rationalAngle_zero_of_neg {q : Int} (hq : q < 0) : rationalAngle 0 q = 32768 := by
  have hquotient : Int.tdiv (q * 8192) (-q) = -8192 := by
    rw [Int.tdiv_neg, Int.mul_tdiv_cancel_left _ hq.ne]
  rw [rationalAngle_of_neg 0 hq, abs_zero, add_zero, zero_sub, hquotient]
  rfl

/-! ## The result -/

theorem detectRational_of_ne {i q : Int} (h : ¬ (i = 0 ∧ q = 0)) :
    detectRational i q = if i < 0 then -rationalAngle i q else rationalAngle i q := if_neg h

theorem detectRational_of_pos {i : Int} (hi : 0 < i) (q : Int) : detectRational i q = rationalAngle i q := by
  rw [detectRational_of_ne (fun h => hi.ne' h.1), if_neg hi.not_gt]

theorem detectRational_of_neg {i : Int} (hi : i < 0) (q : Int) : detectRational i q = -rationalAngle i q := by
  rw [detectRational_of_ne (fun h => hi.ne h.1), if_pos hi]

/-- The sign leaves the size of the angle as it is (41_phase_detector.md R114). -/
theorem abs_detectRational {i q : Int} (h : ¬ (i = 0 ∧ q = 0)) : |detectRational i q| = rationalAngle i q := by
  rw [detectRational_of_ne h]
  split_ifs
  · rw [abs_neg, abs_of_nonneg (rationalAngle_nonneg i q)]
  · exact abs_of_nonneg (rationalAngle_nonneg i q)

/-- On the `q` axis the angle is 0 or π (41_phase_detector.md R125). -/
theorem detectRational_zero (q : Int) : detectRational 0 q = if q < 0 then 32768 else 0 := by
  rcases lt_trichotomy q 0 with hq | rfl | hq
  · rw [if_pos hq, detectRational_of_ne (fun h => hq.ne h.2), if_neg (lt_irrefl 0), rationalAngle_zero_of_neg hq]
  · rfl
  · rw [if_neg hq.not_gt, detectRational_of_ne (fun h => hq.ne' h.2), if_neg (lt_irrefl 0),
      rationalAngle_of_nonneg 0 hq.le, abs_zero, sub_zero, add_zero, Int.mul_tdiv_cancel_left _ hq.ne']
    rfl

/-! ## The statements -/

/-- Settles O49: the dividend `q - |i|` is at most the divisor in size, and the sign of `i` keeps the angle's size. -/
theorem rationalDetectorUpperHalf : Obligations.RationalDetectorUpperHalf := by
  refine ⟨fun i q h hq => ?_, by decide⟩
  have habs : 0 ≤ |i| := abs_nonneg i
  have hdivisor : 1 ≤ q + |i| := by
    by_contra hzero
    exact h ⟨abs_eq_zero.mp (by omega), by omega⟩
  obtain ⟨hlo, hhi⟩ := quotient_bounds (n := q - |i|) (d := q + |i|) (by omega) (by omega)
  refine ⟨hdivisor, hlo, hhi, ?value, ?size⟩
  case value => rw [detectRational_of_ne h, rationalAngle_of_nonneg i hq]
  case size => exact abs_detectRational h ▸ (rationalAngle_upper i hq).2

/-- Settles O50: as O49, with the dividend `q + |i|` and the divisor `|i| - q`. -/
theorem rationalDetectorLowerHalf : Obligations.RationalDetectorLowerHalf := by
  refine ⟨fun i q hq => ?_, by decide⟩
  have habs : 0 ≤ |i| := abs_nonneg i
  have h : ¬ (i = 0 ∧ q = 0) := fun h => hq.ne h.2
  obtain ⟨hlo, hhi⟩ := quotient_bounds (n := q + |i|) (d := |i| - q) (by omega) (by omega)
  refine ⟨by omega, hlo, hhi, ?value, ?size⟩
  case value => rw [detectRational_of_ne h, rationalAngle_of_neg i hq]
  case size => exact abs_detectRational h ▸ rationalAngle_lower i hq

/-- Settles O51: by the sign of `i`. Off the `q` axis the angle is below π; on it the result is 0 or π. -/
theorem rationalDetectorRange : Obligations.RationalDetectorRange := by
  intro i q
  have hangle := rationalAngle_nonneg i q
  rcases lt_trichotomy i 0 with hi | rfl | hi
  · have hlt := rationalAngle_lt hi.ne q
    rw [detectRational_of_neg hi, detectRational_of_pos (neg_pos.mpr hi), rationalAngle_neg]
    omega
  · rw [detectRational_zero]
    split_ifs <;> omega
  · have hlt := rationalAngle_lt hi.ne' q
    rw [detectRational_of_pos hi, detectRational_of_neg (neg_neg_iff_pos.mpr hi), rationalAngle_neg]
    omega

end Sys2Proof.Machine
end

section
/-! The CORDIC detector (41_phase_detector.md R115 to R122): its steps are those of the spec, and the angles they can
accumulate are the sums of the arctangents under all signs. -/

namespace Sys2Proof.Machine

open Sys2Proof.Spec

/-! ## The six steps -/

theorem asr_eq_ediv (v : Int) (n : Nat) : asr v n = v / 2 ^ n := by
  rw [asr, pow2, Nat.cast_pow, Nat.cast_ofNat]

/-- The rotator's state as `cordicStart` and `cordicStep` write it. -/
def Rotor.triple (r : Rotor) : Int × Int × Int := (r.x, r.y, r.ang)

theorem preRotate_triple (i q : Int) : (preRotate i q).triple = cordicStart i q := by
  unfold preRotate cordicStart
  split_ifs <;> rfl

theorem rotate_triple (j : Nat) (r : Rotor) : (rotate j (arctangent j) r).triple = cordicStep r.triple j := by
  by_cases hsign : 0 ≤ r.y <;> simp [rotate, cordicStep, Rotor.triple, asr_eq_ediv, hsign]

/-- Running over the arctangents from index `j` on is running over these indexes. -/
theorem rotateAll_triple (n j : Nat) (r : Rotor) :
    (rotateAll j ((List.range' j n).map arctangent) r).triple = (List.range' j n).foldl cordicStep r.triple := by
  induction n generalizing j r with
  | zero => rfl
  | succ n ih => rw [List.range'_succ, List.map_cons, rotateAll, ih, rotate_triple, List.foldl_cons]

theorem ATAN_eq_map_arctangent : Config.ATAN = (List.range' 0 6).map arctangent := by decide

theorem cordicStart_x_nonneg (i q : Int) : 0 ≤ (cordicStart i q).1 := by
  unfold cordicStart
  split_ifs <;> dsimp only <;> omega

theorem detectCordic_of_ne {i q : Int} (h : ¬ (i = 0 ∧ q = 0)) :
    detectCordic i q = (wrapRaw (rotateAll 0 Config.ATAN (preRotate i q)).ang,
      asr ((rotateAll 0 Config.ATAN (preRotate i q)).x * Config.CGAIN) Config.CGAIN_FRAC) := if_neg h

/-- Settles O53: the detector's rotator ends in the vector and the angle of the spec's six steps. -/
theorem cordicDetectorIsTheSixSteps : Obligations.CordicDetectorIsTheSixSteps := by
  refine ⟨fun i q h => ?_, by decide⟩
  have hsteps : (rotateAll 0 Config.ATAN (preRotate i q)).triple =
      [0, 1, 2, 3, 4, 5].foldl cordicStep (cordicStart i q) := by
    rw [ATAN_eq_map_arctangent, rotateAll_triple, preRotate_triple]
    rfl
  rw [← hsteps, detectCordic_of_ne h]
  exact ⟨cordicStart_x_nonneg i q, rfl, rfl⟩

/-! ## The angles that the steps can accumulate -/

/-- The angles reached from `a` by adding or subtracting each arctangent in turn (41_phase_detector.md R116). -/
def signedSums (atans : List Int) (a : Int) : List Int :=
  match atans with
  | [] => [a]
  | t :: rest => signedSums rest (a + t) ++ signedSums rest (a - t)

theorem rotateAll_ang_mem_signedSums (atans : List Int) (j : Nat) (r : Rotor) :
    (rotateAll j atans r).ang ∈ signedSums atans r.ang := by
  induction atans generalizing j r with
  | nil => exact List.mem_singleton_self _
  | cons t rest ih =>
    have htail := ih (j + 1) (rotate j t r)
    refine List.mem_append.mpr ?_
    rcases rotate_ang j t r with hang | hang <;> rw [hang] at htail
    · exact .inl htail
    · exact .inr htail

theorem preRotate_ang_mem (i q : Int) : (preRotate i q).ang ∈ [0, 16384, -16384] := by
  unfold preRotate
  split_ifs <;> simp

/-- None of the 192 angles is close to a whole turn: 171 and -171 come nearest (41_phase_detector.md R122). -/
theorem wrapRaw_signedSums : ∀ start ∈ [(0 : Int), 16384, -16384], ∀ a ∈ signedSums Config.ATAN start,
    171 ≤ wrapRaw a ∨ 171 ≤ -wrapRaw a := by decide

/-- Settles O52: the range is that of the wrap, and the distance from zero is the one over all signs of the steps. -/
theorem cordicDetectorRange : Obligations.CordicDetectorRange := by
  intro i q
  obtain ⟨hlo, hhi⟩ := detectCordic_angle_bounds i q
  refine ⟨hlo, hhi, fun h => ?_⟩
  rw [detectCordic_of_ne h]
  exact le_abs.mpr (wrapRaw_signedSums _ (preRotate_ang_mem i q) _ (rotateAll_ang_mem_signedSums ..))

/-! ## The widths -/

/-- Settles O54: the bounds of the rotator hold for any first part of the table, which sums to no more than the table. -/
theorem rotatorStaysWithinItsWidths : Obligations.RotatorStaysWithinItsWidths := by
  intro i q n hi hq
  have hpart : (Config.ATAN.take n).Sublist Config.ATAN := List.take_sublist n _
  have hlength : 0 + (Config.ATAN.take n).length ≤ 15 := by
    have := hpart.length_le
    rw [Config.atan_length_and_sum.1, Config.ITERS_eq] at this
    omega
  have hnonneg : ∀ a ∈ Config.ATAN, 0 ≤ a := by decide
  have hsum : (Config.ATAN.take n).sum ≤ 17857 := hpart.sum_le_sum hnonneg
  have hstart := preRotate_ang_le i q
  have hang := rotateAll_ang_le (fun a ha => hnonneg a (hpart.subset ha)) 0 (preRotate i q)
  obtain ⟨x_nonneg, x_le, y_ge, y_le⟩ := rotateAll_bounded _ hlength (preRotate_bounded hi hq)
  have := pow2_pos (15 - (0 + (Config.ATAN.take n).length))
  exact ⟨x_nonneg, by omega, by omega, by omega, by omega⟩

end Sys2Proof.Machine
end

section
/-! Both detectors: the scaled error (41_phase_detector.md R123) and the degenerate input (R111). -/

namespace Sys2Proof.Machine

/-- A raw angle of at most π gives an error of at most π (41_phase_detector.md R123). -/
theorem abs_scaleError_le {raw : Int} (hlo : -32768 ≤ raw) (hhi : raw ≤ 32768) : |scaleError raw| ≤ 268435456 := by
  rw [scaleError_of_raw hlo hhi, abs_le]
  omega

/-- Settles O56: the raw angles of both detectors are at most π in size. -/
theorem scaledErrorIsExact : Obligations.ScaledErrorIsExact := by
  intro i q _ _
  obtain ⟨rlo, rhi⟩ := detectRational_bounds i q
  obtain ⟨clo, chi⟩ := detectCordic_angle_bounds i q
  exact ⟨scaleError_of_raw rlo rhi, scaleError_of_raw clo.le chi, abs_scaleError_le rlo rhi, abs_scaleError_le clo.le chi⟩

theorem detectCordic_zero : detectCordic 0 0 = (0, 0) := rfl

/-- Settles O48: by the detector that `DET` selects; the magnitude written is 0. -/
theorem degenerateInputGivesZero : Obligations.DegenerateInputGivesZero := by
  intro e
  rcases detect_engine e 0 0 with ⟨hdet, h⟩ | ⟨hdet, h⟩
  · rw [h]
    exact ⟨detectRational_zero 0, fun hcordic => absurd (hdet.symm.trans hcordic) (by decide), fun _ => rfl⟩
  · rw [h, detectCordic_zero]
    exact ⟨rfl, fun _ => rfl, fun hrational => absurd (hdet.symm.trans hrational) (by decide)⟩

end Sys2Proof.Machine
end

section
/-! The loop filter (42_loop_filter.md R130 to R139): the model's sum and correction are those that the statements write
from the coefficient store, the sum never saturates in `READY`, and a cleared loop is a fixed point of zero samples. -/

namespace Sys2Proof.Machine

open Sys2Proof.Spec

/-! ## Quotient and remainder -/

/-- The quotient of 42_loop_filter.md R133. -/
theorem asr_FF (y : Int) : asr y Config.FF = y / 65536 := by
  rw [asr, Config.FF_eq, pow2_16]

/-- The remainder is the low 16 bits of the sum, also of a negative one (42_loop_filter.md R133). -/
theorem remainder_eq_emod (y : Int) : remainder y = y % 65536 := by
  rw [remainder, asr_FF, shl, Config.FF_eq, pow2_16]
  omega

/-- Settles O57: the library's division with remainder, by 65536. -/
theorem remainderIsNeverNegative : Obligations.RemainderIsNeverNegative := by
  refine ⟨fun y => ?_, by decide⟩
  rw [remainder_eq_emod, asr_FF]
  omega

/-! ## The sum and the correction, from the coefficient store -/

/-- The coefficient set is the contents of the store, which holds one to three coefficients (10_state.md R24). -/
theorem taps_cases {e : Engine} {t : Taps} (h : e.taps = some t) :
    (∃ b0, e.coef = [b0] ∧ t = .one b0.toInt) ∨
    (∃ b0 b1, e.coef = [b0, b1] ∧ t = .two b0.toInt b1.toInt) ∨
    (∃ b0 b1 b2, e.coef = [b0, b1, b2] ∧ t = .three b0.toInt b1.toInt b2.toInt) := by
  unfold Engine.taps at h
  match hc : e.coef with
  | [] | _ :: _ :: _ :: _ :: _ => simp [hc, tapsOf] at h
  | [b0] => exact .inl ⟨b0, rfl, Option.some.inj (h.symm.trans (congrArg tapsOf hc))⟩
  | [b0, b1] => exact .inr (.inl ⟨b0, b1, rfl, Option.some.inj (h.symm.trans (congrArg tapsOf hc))⟩)
  | [b0, b1, b2] => exact .inr (.inr ⟨b0, b1, b2, rfl, Option.some.inj (h.symm.trans (congrArg tapsOf hc))⟩)

/-- A coefficient that was not loaded contributes nothing: the sum over the loaded ones is the sum over all three places
of the store (42_loop_filter.md R131). -/
theorem feedForward_eq_acc {e : Engine} {t : Taps} (h : e.taps = some t) (x : Int) :
    feedForward t x e.x1.toInt e.x2.toInt e.qerr.toNat = acc e x := by
  rcases taps_cases h with ⟨b0, hc, rfl⟩ | ⟨b0, b1, hc, rfl⟩ | ⟨b0, b1, b2, hc, rfl⟩ <;>
    simp [feedForward, acc, tap, hc]

/-- The saturated sum of 42_loop_filter.md R132. -/
theorem yRaw_eq_spec {e : Engine} {t : Taps} (h : e.taps = some t) (x : Int) : e.yRaw t x = yRaw e x := by
  rw [Engine.yRaw, feedForward_eq_acc h, sat, clamp_eq_max_min (by decide)]
  rfl

/-- The number of coefficients loaded selects the recursion (42_loop_filter.md R135). -/
theorem recursion_eq_yPre {e : Engine} {t : Taps} (h : e.taps = some t) (x : Int) :
    recursion t (yRaw e x / 65536) e.y1.toInt e.y2.toInt = yPre e x := by
  rcases taps_cases h with ⟨b0, hc, rfl⟩ | ⟨b0, b1, hc, rfl⟩ | ⟨b0, b1, b2, hc, rfl⟩ <;>
    simp [recursion, yPre, hc]

/-- The correction is the clamped output of the recursion (42_loop_filter.md R136). -/
theorem correction_eq_y0 {e : Engine} {t : Taps} (h : e.taps = some t) (x : Int) : e.correction t x = y0 e x := by
  rw [Engine.correction, asr_FF, yRaw_eq_spec h, recursion_eq_yPre h, clamp_eq_max_min (by decide)]
  rfl

/-! ## The saturation does not act -/

theorem coefInRange_of_validate {e : Engine} (h : e.validate = .none) {c : RegWord} (hc : c ∈ e.coef) :
    CoefInRange c.toInt := by
  unfold Engine.validate at h
  split_ifs at h with hnone hrange hsize
  by_contra hout
  exact hrange (List.any_eq_true.mpr ⟨c, hc, by rw [decide_eq_false hout, Bool.not_false]⟩)

/-- A place of the store holds a coefficient of 18 bits or counts as 0 (42_loop_filter.md R131, R140). -/
theorem abs_tap_le {e : Engine} (h : e.validate = .none) (j : Nat) : |tap e j| ≤ 131072 := by
  unfold tap
  cases hj : e.coef[j]? with
  | none => simp
  | some c =>
    obtain ⟨hlo, hhi⟩ := (coefInRange_iff _).mp (coefInRange_of_validate h (List.mem_of_getElem? hj))
    exact abs_le.mpr ⟨hlo, hhi.trans (by decide)⟩

/-- One product of the sum is at most `2^45` in size (42_loop_filter.md R132). -/
theorem abs_mul_tap_le {e : Engine} (h : e.validate = .none) (j : Nat) {x : Int} (hlo : -268435456 ≤ x)
    (hhi : x ≤ 268435456) : |x * tap e j| ≤ 35184372088832 := by
  rw [abs_mul]
  exact mul_le_mul (abs_le.mpr ⟨hlo, hhi⟩) (abs_tap_le h j) (abs_nonneg _) (by decide)

/-- Three products and the fed-back remainder stay below `3 * 2^45 + 2^16` (42_loop_filter.md R132). -/
theorem abs_acc_lt {e : Engine} (h : e.Inv) (hm : e.mode = .ready) {x : Int} (hlo : -268435456 ≤ x)
    (hhi : x ≤ 268435456) : |acc e x| < 105553116332032 := by
  have hvalid := h.configured hm
  obtain ⟨x1lo, x1hi⟩ := h.x1_range
  obtain ⟨x2lo, x2hi⟩ := h.x2_range
  have h0 := abs_le.mp (abs_mul_tap_le hvalid 0 hlo hhi)
  have h1 := abs_le.mp (abs_mul_tap_le hvalid 1 x1lo x1hi)
  have h2 := abs_le.mp (abs_mul_tap_le hvalid 2 x2lo x2hi)
  have hqerr := e.qerr.isLt
  rw [acc, abs_lt]
  omega

/-- In `READY` the saturated sum is the exact one, for every error a detector gives (42_loop_filter.md R132). -/
theorem yRaw_eq_acc {e : Engine} {t : Taps} (h : e.Inv) (hm : e.mode = .ready) (ht : e.taps = some t) {x : Int}
    (hlo : -268435456 ≤ x) (hhi : x ≤ 268435456) : e.yRaw t x = acc e x := by
  obtain ⟨alo, ahi⟩ := abs_lt.mp (abs_acc_lt h hm hlo hhi)
  rw [Engine.yRaw, feedForward_eq_acc ht]
  refine sat_of_mem ?_ ?_ <;> simp only [Config.AW_eq, Nat.reduceSub, pow2_47] <;> omega

/-- Settles O58: the exact sum is inside the 48 bits it saturates to. -/
theorem feedForwardSumNeverSaturates : Obligations.FeedForwardSumNeverSaturates := by
  intro e t x h hm ht hlo hhi
  rw [yRaw_eq_acc h hm ht hlo hhi, feedForward_eq_acc ht]
  exact ⟨rfl, (abs_acc_lt h hm hlo hhi).trans (by decide)⟩

/-! ## The filter's state after a `PROC` -/

/-- A `PROC` that completes in `READY` leaves the engine of one sample, with the coefficients that are loaded. -/
theorem exec_proc_engine {i q : Int} {s t : State} (hm : s.engine.mode = .ready) (h : exec (.proc i q) s = .next t) :
    ∃ oi oq taps, s.engine.taps = some taps ∧ t.engine = (s.engine.sample taps i q oi oq).2 := by
  rcases execProc_cases h with ⟨hnot, -⟩ | ⟨-, oi, oq, taps, -, htaps, rfl⟩
  · exact absurd hm hnot
  · exact ⟨oi, oq, taps, htaps, rfl⟩

/-- `X1` holds the error exactly (41_phase_detector.md R123). -/
theorem sample_x1_toInt (e : Engine) (t : Taps) (i q oi oq : Int) :
    (e.sample t i q oi oq).2.x1.toInt = (e.sample t i q oi oq).1 := by
  obtain ⟨hlo, hhi⟩ := sample_error_bounds e t i q oi oq
  obtain ⟨-, hx1, -⟩ := sample_loop e t i q oi oq
  rw [hx1, toInt_ofInt_32 (by omega) (by omega)]

/-- `Y1` holds the correction exactly (42_loop_filter.md R136, R137). -/
theorem sample_y1_toInt (e : Engine) (t : Taps) (i q oi oq : Int) :
    (e.sample t i q oi oq).2.y1.toInt = e.correction t (e.sample t i q oi oq).1 := by
  obtain ⟨hlo, hhi⟩ := correction_bounds e t (e.sample t i q oi oq).1
  obtain ⟨-, -, -, hy1, -⟩ := sample_loop e t i q oi oq
  rw [hy1, toInt_ofInt_29 hlo hhi]

/-- `QERR` holds the remainder exactly (42_loop_filter.md R133, R134). -/
theorem sample_qerr_toNat (e : Engine) (t : Taps) (i q oi oq : Int) :
    ((e.sample t i q oi oq).2.qerr.toNat : Int) = e.yRaw t (e.sample t i q oi oq).1 % 65536 := by
  obtain ⟨-, -, -, -, -, hqerr⟩ := sample_loop e t i q oi oq
  rw [hqerr, remainder_eq_emod, toNat_ofInt_16 (by omega) (by omega)]

/-- The wrapped sum of any stored phase and any correction fits `PHASE`: the wrap moves a sum beyond π back by more than
a correction can add. -/
theorem wrapPhase_fits {p y : Int} (plo : -2147483648 ≤ p) (phi : p ≤ 2147483647) (ylo : -268435456 ≤ y)
    (yhi : y ≤ 268435455) : FitsWord (wrapPhase (p + y)) := by
  unfold wrapPhase
  simp only [Config.PHASE_PI_eq, Config.CYCLE_eq]
  split_ifs <;> exact ⟨by omega, by omega⟩

/-- `PHASE` holds the wrapped sum exactly (43_process.md R154). -/
theorem sample_phase_toInt (e : Engine) (t : Taps) (i q oi oq : Int) :
    (e.sample t i q oi oq).2.phase.toInt =
      wrapPhase (e.phase.toInt + e.correction t (e.sample t i q oi oq).1) := by
  obtain ⟨ylo, yhi⟩ := correction_bounds e t (e.sample t i q oi oq).1
  obtain ⟨plo, phi⟩ := fitsWord_toInt e.phase
  obtain ⟨hlo, hhi⟩ := wrapPhase_fits plo phi ylo yhi
  obtain ⟨hphase, -⟩ := sample_loop e t i q oi oq
  rw [hphase, toInt_ofInt_32 hlo hhi]

/-- Settles O44: `Y1` is the correction, and the phase moved by the correction. -/
theorem procShiftsTheDelayLine : Obligations.ProcShiftsTheDelayLine := by
  intro s t i q ⟨hm, _⟩ hexec
  obtain ⟨oi, oq, taps, -, ht⟩ := exec_proc_engine hm hexec
  obtain ⟨-, -, hx2, -, hy2, -⟩ := sample_loop s.engine taps i q oi oq
  rw [ht, sample_y1_toInt]
  exact ⟨hx2, hy2, sample_phase_toInt ..⟩

/-- Settles O59: `QERR` is the remainder of the unsaturated sum of the error that `X1` holds. -/
theorem remainderIsFedForward : Obligations.RemainderIsFedForward := by
  intro s t i q h hm hexec
  obtain ⟨oi, oq, taps, htaps, ht⟩ := exec_proc_engine hm hexec
  obtain ⟨hlo, hhi⟩ := sample_error_bounds s.engine taps i q oi oq
  rw [ht, sample_x1_toInt, sample_y1_toInt, sample_qerr_toNat, yRaw_eq_acc h hm htaps hlo hhi]
  exact ⟨(Int.ediv_mul_add_emod ..).symm, correction_eq_y0 htaps _⟩

/-! ## Zero samples on a cleared loop -/

theorem mix_zero (oi oq : Int) : mix 0 0 oi oq = (0, 0) := by
  simp only [mix, zero_mul, add_zero, sub_zero]
  rfl

/-- With a cleared loop and error 0 the sum is 0, whatever the coefficients (42_loop_filter.md R139). -/
theorem yRaw_zero_of_clear (e : Engine) (t : Taps) : e.clear.yRaw t 0 = 0 := by
  have hsum : feedForward t 0 0 0 0 = 0 := by cases t <;> simp [feedForward]
  simp only [Engine.yRaw, Engine.clear_x1, Engine.clear_x2, Engine.clear_qerr]
  exact (congrArg (sat Config.AW) hsum).trans (by decide)

theorem correction_zero_of_clear (e : Engine) (t : Taps) : e.clear.correction t 0 = 0 := by
  rw [Engine.correction, yRaw_zero_of_clear]
  cases t <;> rfl

/-- A cleared loop is a fixed point of the filter with error 0 (42_loop_filter.md R139). -/
theorem advance_zero_of_clear (e : Engine) (t : Taps) : e.clear.advance t 0 = (0, e.clear) := by
  rw [Engine.advance, correction_zero_of_clear, yRaw_zero_of_clear]
  rfl

/-- The degenerate input leaves a cleared engine: the magnitude written, if any, is the 0 that is there
(41_phase_detector.md R111). -/
theorem detect_zero_of_clear (e : Engine) : e.clear.detect 0 0 = (0, e.clear) := by
  obtain ⟨hraw, hcordic, hrational⟩ := degenerateInputGivesZero e.clear
  refine Prod.ext hraw ?_
  cases hdet : e.clear.det with
  | rational => exact hrational hdet
  | cordic => exact hcordic hdet

/-- A zero sample leaves a cleared engine as it is (42_loop_filter.md R139). -/
theorem sample_zero_of_clear (e : Engine) (t : Taps) (oi oq : Int) :
    (e.clear.sample t 0 0 oi oq).2 = e.clear := by
  have herror : scaleError 0 = 0 := by decide
  simp only [Engine.sample, mix_zero, detect_zero_of_clear, herror, advance_zero_of_clear]
  rfl

/-- One step on a zero sample takes the command off the channel and leaves a cleared engine as it is. -/
theorem step_zero_of_clear {s : State} {rest : List HostInput} (hready : s.engine.ReadyToSample)
    (hclear : s.engine.clear = s.engine) (hp : s.pending = .command (encode (.proc 0 0)) :: rest) :
    ∃ t : State, step s = .next t ∧ t.engine = s.engine ∧ t.pending = rest := by
  have hdecode := decodeEncodeRoundTrip (.proc 0 0) (by decide)
  obtain ⟨hm, hone, hthree, hfull⟩ := hready
  obtain ⟨oi, oq, taps, -, -, -, hexec⟩ :=
    execProc_of_readyToSample (s := s.withPending rest) hm hone hthree hfull 0 0
  refine ⟨_, (step_of_command hp hdecode).trans hexec, ?_, rfl⟩
  have hsample := sample_zero_of_clear s.engine taps oi.toInt oq.toInt
  rwa [hclear] at hsample

/-- Settles O43, by induction on the number of samples. -/
theorem zeroInputLeavesClearedLoop : Obligations.ZeroInputLeavesClearedLoop := by
  intro k
  induction k with
  | zero => exact fun s _ _ hp => ⟨s, rfl, rfl, hp⟩
  | succ k ih =>
    intro s hready hclear hp
    obtain ⟨t, hstep, hengine, hpending⟩ := step_zero_of_clear hready hclear hp
    obtain ⟨u, hrun, huengine, hupending⟩ := ih t (hengine ▸ hready) (by rw [hengine, hclear]) hpending
    exact ⟨u, (run_next k hstep).trans hrun, huengine.trans hengine, hupending⟩

end Sys2Proof.Machine
end

section
/-! No hidden state (43_process.md R160; log 2): the record of the responses is read by no meaning, so putting earlier
responses in front of it commutes with every operation, every command, every step and every run. -/

namespace Sys2Proof.Machine

/-- The machine that had given the responses `l` before those on its record. -/
def State.withHistory (l : List Response) (s : State) : State := { s with responses := l ++ s.responses }

@[simp] theorem State.withHistory_engine (l : List Response) (s : State) : (s.withHistory l).engine = s.engine := rfl
@[simp] theorem State.withHistory_pending (l : List Response) (s : State) : (s.withHistory l).pending = s.pending := rfl
@[simp] theorem State.withHistory_responses (l : List Response) (s : State) :
    (s.withHistory l).responses = l ++ s.responses := rfl

theorem State.withHistory_respond (l : List Response) (s : State) (st : Status) (d : RspData) :
    (s.withHistory l).respond st d = (s.respond st d).withHistory l := by
  simp [State.withHistory, State.respond]

/-- A machine is the one with the same engine and inputs and an empty record, with its record put in front. -/
theorem State.eq_withHistory {s s' : State} (hengine : s.engine = s'.engine) (hpending : s.pending = s'.pending) :
    s = ({ s' with responses := [] } : State).withHistory s.responses := by
  cases s
  cases hengine
  cases hpending
  simp [State.withHistory]

/-- The outcome with earlier responses put in front of the record of its next state; a stop is the same stop. -/
def outcomeWithHistory (l : List Response) : Host.Outcome State Fault Refusal → Host.Outcome State Fault Refusal
  | .next t => .next (t.withHistory l)
  | .fault f => .fault f
  | .refused r => .refused r

/-! ## The operations -/

@[simp] theorem succeed_withHistory (l : List Response) (s : State) (e : Engine) (d : RspData) :
    succeed (s.withHistory l) e d = outcomeWithHistory l (succeed s e d) :=
  congrArg Host.Outcome.next (State.withHistory_respond l (s.withEngine e) .ok d)

@[simp] theorem raise_withHistory (l : List Response) (s : State) (st : Status) :
    raise (s.withHistory l) st = outcomeWithHistory l (raise s st) :=
  congrArg Host.Outcome.next (State.withHistory_respond l s st 0#64)

@[simp] theorem raiseCfgError_withHistory (l : List Response) (s : State) (c : CfgErr) :
    raiseCfgError (s.withHistory l) c = outcomeWithHistory l (raiseCfgError s c) :=
  congrArg Host.Outcome.next (State.withHistory_respond l (s.withEngine (s.engine.fail c)) .cfgError 0#64)

/-! ## Commands, steps and runs -/

theorem execProc_withHistory (l : List Response) (i q : Int) (s : State) :
    execProc i q (s.withHistory l) = outcomeWithHistory l (execProc i q s) := by
  simp only [execProc, State.withHistory_engine, apply_ite (outcomeWithHistory l), raise_withHistory]
  refine if_congr Iff.rfl rfl ?_
  match s.engine.lookup s.engine.phase.toInt, s.engine.taps with
  | none, _ => rfl
  | some (oi, oq), none => rfl
  | some (oi, oq), some t => exact succeed_withHistory ..

theorem execInit_withHistory (l : List Response) (det : Detector) (s : State) :
    execInit det (s.withHistory l) = outcomeWithHistory l (execInit det s) := by
  simp only [execInit, State.withHistory_engine, apply_ite (outcomeWithHistory l), raise_withHistory]
  refine if_congr Iff.rfl rfl ?_
  cases s.engine.validate with
  | none => exact succeed_withHistory ..
  | noCoef | coefRange | tblSize => exact raiseCfgError_withHistory ..

/-- No command reads the record of the responses. -/
theorem exec_withHistory (l : List Response) (i : Instr) (s : State) :
    exec i (s.withHistory l) = outcomeWithHistory l (exec i s) := by
  cases i with
  | nop => exact succeed_withHistory ..
  | proc i q => exact execProc_withHistory l i q s
  | ldc v => simp [exec, execLdc, apply_ite (outcomeWithHistory l)]
  | ldt v => simp [exec, execLdt, apply_ite (outcomeWithHistory l)]
  | rdreg r =>
    simp only [exec, execRdreg, State.withHistory_engine]
    cases s.engine.readAddr r with
    | none => exact raise_withHistory ..
    | some v => exact succeed_withHistory ..
  | rdt k =>
    simp only [exec, execRdt, State.withHistory_engine]
    cases s.engine.tblAt k with
    | none => exact raise_withHistory ..
    | some v => exact succeed_withHistory ..
  | init det => exact execInit_withHistory l det s
  | reset => simp [exec, execReset, apply_ite (outcomeWithHistory l)]

/-- No input's effect reads the record of the responses. -/
theorem step_withHistory (l : List Response) (s : State) :
    step (s.withHistory l) = outcomeWithHistory l (step s) := by
  match hp : s.pending with
  | [] =>
    rw [step_of_no_input hp, step_of_no_input (s := s.withHistory l) hp]
    rfl
  | .hardwareReset :: rest =>
    rw [step_of_hardwareReset hp, step_of_hardwareReset (s := s.withHistory l) hp]
    rfl
  | .abandoned w :: rest =>
    rw [step_of_abandoned hp, step_of_abandoned (s := s.withHistory l) hp]
    rfl
  | .command w :: rest =>
    match hd : decode w with
    | .illegalOp =>
      rw [step_of_illegalOp hp hd, step_of_illegalOp (s := s.withHistory l) hp hd]
      exact raise_withHistory l (s.withPending rest) .illegalOp
    | .illegalField =>
      rw [step_of_illegalField hp hd, step_of_illegalField (s := s.withHistory l) hp hd]
      exact raise_withHistory l (s.withPending rest) .illegalField
    | .command i =>
      rw [step_of_command hp hd, step_of_command (s := s.withHistory l) hp hd]
      exact exec_withHistory l i (s.withPending rest)

/-- A run ends where a step faults. -/
theorem run_fault {s : State} {f : Fault} (k : Nat) (h : step s = .fault f) :
    Host.Core.run Sys2Proof.core (k + 1) s = .fault f := by
  have hcore : Sys2Proof.core.step s = .fault f := h
  simp only [Host.Core.run, hcore]

/-- A run ends where a step is refused. -/
theorem run_refused {s : State} {r : Refusal} (k : Nat) (h : step s = .refused r) :
    Host.Core.run Sys2Proof.core (k + 1) s = .refused r := by
  have hcore : Sys2Proof.core.step s = .refused r := h
  simp only [Host.Core.run, hcore]

/-- No run reads the record of the responses it starts with. -/
theorem run_withHistory (l : List Response) (k : Nat) (s : State) :
    Host.Core.run Sys2Proof.core k (s.withHistory l) = outcomeWithHistory l (Host.Core.run Sys2Proof.core k s) := by
  induction k generalizing s with
  | zero => rfl
  | succ k ih =>
    have hstep := step_withHistory l s
    match h : step s with
    | .next t =>
      rw [h] at hstep
      rw [run_next k h, run_next k hstep]
      exact ih t
    | .fault f =>
      rw [h] at hstep
      rw [run_fault k h, run_fault k hstep]
      rfl
    | .refused r =>
      rw [h] at hstep
      rw [run_refused k h, run_refused k hstep]
      rfl

/-- A run is that of the machine with an empty record, with the machine's own record put in front. -/
theorem run_eq_outcomeWithHistory (k : Nat) {s s' : State} (hengine : s.engine = s'.engine)
    (hpending : s.pending = s'.pending) :
    Host.Core.run Sys2Proof.core k s =
      outcomeWithHistory s.responses (Host.Core.run Sys2Proof.core k ({ s' with responses := [] } : State)) := by
  rw [← run_withHistory, ← State.eq_withHistory hengine hpending]

/-- Settles O15: both runs are the run of one machine with an empty record; what stands on its record in the end is what
both have answered. -/
theorem noHiddenState : Obligations.NoHiddenState := by
  intro k s s' hengine hpending
  rw [run_eq_outcomeWithHistory k hengine hpending, run_eq_outcomeWithHistory k (s := s') rfl rfl]
  match Host.Core.run Sys2Proof.core k ({ s' with responses := [] } : State) with
  | .next t => exact ⟨rfl, rfl, t.responses, rfl, rfl⟩
  | .fault f => rfl
  | .refused r => rfl

end Sys2Proof.Machine
end

section
/-! The pieces of a sample in the terms of 43_process.md: the wrap (R154, R159), the mixer (R151), the looked-up pair
(40_sine_table_nco.md R103), the error (41_phase_detector.md R123) and the magnitude (R120). -/

namespace Sys2Proof.Machine

open Sys2Proof.Spec

/-! ## The wrap -/

theorem wrapPhase_of_gt {p : Int} (h : 268435456 < p) : wrapPhase p = p - 536870912 := if_pos h

theorem wrapPhase_of_le {p : Int} (h : p ≤ -268435456) : wrapPhase p = p + 536870912 := by
  rw [wrapPhase, if_neg (h.trans (by decide)).not_gt, if_pos h]

theorem wrapPhase_of_mem {p : Int} (hlo : -268435456 < p) (hhi : p ≤ 268435456) : wrapPhase p = p := by
  rw [wrapPhase, if_neg hhi.not_gt, if_neg hlo.not_ge]

/-- Settles O46: by the three cases of the wrap; a sum is less than one cycle from the range. -/
theorem wrapReturnsToTheRange : Obligations.WrapReturnsToTheRange := by
  intro p y plo phi ylo yhi
  obtain ⟨hlo, hhi⟩ := wrapPhase_bounds plo phi ylo yhi
  refine ⟨hlo, hhi, fun habove => ?above, fun hbelow => ?below, wrapPhase_of_mem⟩
  case above =>
    rw [wrapPhase_of_gt habove]
    exact ⟨rfl, by omega⟩
  case below =>
    rw [wrapPhase_of_le hbelow]
    exact ⟨rfl, by omega⟩

/-! ## The mixer -/

/-- Saturation to the sample width, in its three cases (00_scope.md R10). -/
theorem sat_SW_cases (v : Int) :
    (FitsSample v → sat Config.SW v = v) ∧ (v > 32767 → sat Config.SW v = 32767) ∧
    (v < -32768 → sat Config.SW v = -32768) :=
  ⟨fun h => sat_of_mem h.1 h.2, clamp_of_gt (by decide), clamp_of_lt⟩

theorem asr_SF (v : Int) : asr v Config.SF = v / 32768 := by
  rw [asr, Config.SF_eq, pow2_15]

/-- Settles O47: each component is the saturated floor of its product. -/
theorem mixerSaturatesTheResidual : Obligations.MixerSaturatesTheResidual := by
  intro i q oi oq
  obtain ⟨hi, hq⟩ := mix_bounds i q oi oq
  obtain ⟨ifits, iabove, ibelow⟩ := sat_SW_cases ((i * oi + q * oq) / 32768)
  obtain ⟨qfits, qabove, qbelow⟩ := sat_SW_cases ((q * oi - i * oq) / 32768)
  refine ⟨hi, hq, ?_⟩
  simp only [mix, asr_SF]
  exact ⟨ifits, iabove, ibelow, qfits, qabove, qbelow⟩

/-! ## The looked-up pair -/

theorem tblAt_eq_some_iff {e : Engine} {k : Nat} {v : Int} :
    e.tblAt k = some v ↔ ∃ x : Sample, e.tbl[k]? = some x ∧ x.toInt = v := Option.map_eq_some_iff

/-- The pair is the two oscillator values (40_sine_table_nco.md R101 to R103). -/
theorem lookup_eq_some_iff {e : Engine} {p oi oq : Int} :
    e.lookup p = some (oi, oq) ↔ e.oscI p = some oi ∧ e.oscQ p = some oq := by
  unfold Engine.lookup
  cases e.oscI p <;> cases e.oscQ p <;> simp

/-- A looked-up value comes from a table entry, so it survives being packed in 16 bits (30_encoding.md R74). -/
theorem toInt_ofInt_of_tblAt {e : Engine} {k : Nat} {v : Int} (h : e.tblAt k = some v) :
    (BitVec.ofInt 16 v).toInt = v := by
  obtain ⟨x, -, rfl⟩ := tblAt_eq_some_iff.mp h
  rw [BitVec.ofInt_toInt]

/-! ## The error and the magnitude -/

/-- The error of a sample, as the statements write it: the raw angle of the selected detector, scaled
(43_process.md R155, step 3). -/
theorem sample_error_eq_err (e : Engine) (t : Taps) (i q oi oq : Int) :
    (e.sample t i q oi oq).1 = err e.det (mix i q oi oq).1 (mix i q oi oq).2 := by
  have hraw : (e.detect (mix i q oi oq).1 (mix i q oi oq).2).1 = raw e.det (mix i q oi oq).1 (mix i q oi oq).2 := by
    rcases detect_engine e (mix i q oi oq).1 (mix i q oi oq).2 with ⟨hdet, h⟩ | ⟨hdet, h⟩ <;> rw [h, hdet, raw]
  rw [sample_error, hraw, scaleError, sat, clamp_eq_max_min (by decide)]
  rfl

/-- A zero sample has the degenerate residual, whose error is 0 (43_process.md R161; 41_phase_detector.md R111). -/
theorem sample_error_zero (e : Engine) (t : Taps) (oi oq : Int) : (e.sample t 0 0 oi oq).1 = 0 := by
  obtain ⟨hraw, -⟩ := degenerateInputGivesZero e
  rw [sample_error, mix_zero, hraw]
  decide

/-- With `DET = 1` a sample writes the magnitude of its residual to `MAG` (41_phase_detector.md R120). -/
theorem sample_mag_cordic {e : Engine} (hd : e.det = .cordic) (t : Taps) (i q oi oq : Int) :
    (e.sample t i q oi oq).2.mag = BitVec.ofInt 32 (detectCordic (mix i q oi oq).1 (mix i q oi oq).2).2 := by
  rcases detect_engine e (mix i q oi oq).1 (mix i q oi oq).2 with ⟨hrational, -⟩ | ⟨-, h⟩
  · simp [hd] at hrational
  · rw [sample_of_detect h]
    rfl

/-- `MAG` holds the magnitude exactly, for the residual fits the sample width (10_state.md R31). -/
theorem sample_mag_toNat {e : Engine} (hd : e.det = .cordic) (t : Taps) (i q oi oq : Int) :
    ((e.sample t i q oi oq).2.mag.toNat : Int) = (detectCordic (mix i q oi oq).1 (mix i q oi oq).2).2 := by
  obtain ⟨hi, hq⟩ := mix_bounds i q oi oq
  obtain ⟨hlo, hhi⟩ := detectCordic_magnitude_bounds hi hq
  rw [sample_mag_cordic hd, toNat_ofInt_32 hlo (by omega)]

end Sys2Proof.Machine
end

section
/-! `PROC` (43_process.md R155 to R157, R161): what a sample that runs answers and leaves, as the statements write it. -/

namespace Sys2Proof.Machine

open Sys2Proof.Spec

/-- The `phase_error` of a response is the error of the sample: 32 bits hold it (30_encoding.md R74). -/
theorem procData_phaseError_toInt (e : Engine) (t : Taps) (i q oi oq a b : Int) :
    RspData.phaseError (procData (e.sample t i q oi oq).1 a b) = (e.sample t i q oi oq).1 := by
  obtain ⟨hlo, hhi⟩ := sample_error_bounds e t i q oi oq
  rw [RspData.phaseError, procData_phaseError, toInt_ofInt_32 (by omega) (by omega)]

/-- The machine after a sample with the pair that was looked up shows the six steps of 43_process.md R155. -/
theorem procEffect_of_sample {s : State} {oi oq : Sample} {taps : Taps} (i q : Int)
    (hoi : s.engine.tbl[(phaseIndex s.engine.phase.toInt + 512) % 2048]? = some oi)
    (hoq : s.engine.tbl[phaseIndex s.engine.phase.toInt]? = some oq) (htaps : s.engine.taps = some taps) :
    ProcEffect s i q ((s.withEngine (s.engine.sample taps i q oi.toInt oq.toInt).2).respond .ok
      (procData (s.engine.sample taps i q oi.toInt oq.toInt).1 oq.toInt oi.toInt)) := by
  have hdata := procData_phaseError_toInt s.engine taps i q oi.toInt oq.toInt oq.toInt oi.toInt
  have hphase := sample_phase_toInt s.engine taps i q oi.toInt oq.toInt
  have hx1 := sample_x1_toInt s.engine taps i q oi.toInt oq.toInt
  have hy1 := sample_y1_toInt s.engine taps i q oi.toInt oq.toInt
  have hqerr := sample_qerr_toNat s.engine taps i q oi.toInt oq.toInt
  obtain ⟨-, -, hx2, -, hy2, -⟩ := sample_loop s.engine taps i q oi.toInt oq.toInt
  rw [correction_eq_y0 htaps] at hphase hy1
  rw [yRaw_eq_spec htaps] at hqerr
  rw [sample_error_eq_err] at hdata hphase hx1 hy1 hqerr ⊢
  refine ⟨oi, oq, _, hoi, hoq, ?lockedI, ?lockedQ, hdata, rfl, rfl, hphase, hx1, hx2, hy1, hy2, hqerr,
    fun hd => sample_mag_toNat hd .., fun hd => sample_mag_rational hd .., sample_frame ..⟩
  case lockedI => rw [procData_lockedI, BitVec.ofInt_toInt]
  case lockedQ => rw [procData_lockedQ, BitVec.ofInt_toInt]

/-- A `PROC` in a state that can run a sample completes with the six steps of 43_process.md R155. -/
theorem exec_proc_effect {s : State} (hready : s.engine.ReadyToSample) (i q : Int) :
    ∃ t : State, exec (.proc i q) s = .next t ∧ ProcEffect s i q t := by
  obtain ⟨hm, hone, hthree, hfull⟩ := hready
  obtain ⟨oi, oq, taps, hoi, hoq, htaps, hexec⟩ := execProc_of_readyToSample hm hone hthree hfull i q
  exact ⟨_, hexec, procEffect_of_sample i q hoi hoq htaps⟩

/-- The word of `PROC` carries `i` in the low half of `d` and `q` in the high half (30_encoding.md R77). -/
theorem decode_proc_word (d : BitVec 32) :
    decode (pack 1#4 0#12 d) =
      .command (.proc (BitVec.ofNat 16 d.toNat).toInt (BitVec.ofNat 16 (d.toNat / 65536)).toInt) := by
  have hlow : d.extractLsb' 0 16 = BitVec.ofNat 16 d.toNat := rfl
  have hhigh : d.extractLsb' 16 16 = BitVec.ofNat 16 (d.toNat / 65536) :=
    congrArg (BitVec.ofNat 16) (Nat.shiftRight_eq_div_pow _ _)
  rw [← hlow, ← hhigh]
  exact (decode_opcode .proc 0#12 d).trans (if_pos ⟨by decide, d.isLt⟩)

theorem decode_proc_malformed {a : BitVec 12} (ha : a ≠ 0#12) (d : BitVec 32) :
    decode (pack 1#4 a d) = .illegalField := by
  refine (decode_opcode .proc a d).trans (if_neg fun hfits => ha ?_)
  exact (eq_zero_iff_toNat_lt_one a).mpr hfits.1

/-- Settles O23: the field check is the decoder's, the mode check is `PROC`'s, and the effect is `exec_proc_effect`. -/
theorem procCommand : Obligations.ProcCommand := by
  refine ⟨fun s i q hready => exec_proc_effect hready i q, fun s a d => ⟨fun ha => ?field, ?mode, ?effect⟩⟩
  case field => exact step_of_illegalField (s := sent s (pack 1#4 a d)) rfl (decode_proc_malformed ha d)
  case mode =>
    rintro rfl hm
    exact (step_of_command (s := sent s (pack 1#4 0#12 d)) rfl (decode_proc_word d)).trans
      (execProc_of_not_ready (s := s) hm _ _)
  case effect =>
    rintro rfl hready
    rw [step_of_command (s := sent s (pack 1#4 0#12 d)) rfl (decode_proc_word d)]
    exact exec_proc_effect (s := s) hready _ _

/-- Settles O40: the packed fields are the pair that was looked up and the error that `X1` received. -/
theorem responseCarriesThePairBeforeTheUpdate : Obligations.ResponseCarriesThePairBeforeTheUpdate := by
  intro s t i q r hexec hresponse hok
  rcases execProc_cases hexec with ⟨-, rfl⟩ | ⟨-, oi, oq, taps, hlookup, -, rfl⟩
  · obtain rfl : Response.mk .illegalMode 0#64 = r := by simpa using hresponse
    cases hok
  · obtain rfl : Response.mk .ok _ = r := by simpa using hresponse
    obtain ⟨hoi, hoq⟩ := lookup_eq_some_iff.mp hlookup
    refine ⟨?lockedI, ?lockedQ, ?phaseError⟩
    case lockedI => rw [RspData.lockedI, procData_lockedI, toInt_ofInt_of_tblAt hoi, hoi]
    case lockedQ => rw [RspData.lockedQ, procData_lockedQ, toInt_ofInt_of_tblAt hoq, hoq]
    case phaseError => exact (procData_phaseError_toInt ..).trans (sample_x1_toInt ..).symm

/-- Settles O41: the index of phase 0 is 0, and the response is packed from the entries 512 and 0. -/
theorem firstSampleUsesPhaseZero : Obligations.FirstSampleUsesPhaseZero := by
  intro s t i q oi oq ⟨hm, hone, hthree, hfull⟩ hphase hoi hoq hexec
  obtain ⟨oi', oq', taps, hoi', hoq', -, hproc⟩ := execProc_of_readyToSample hm hone hthree hfull i q
  obtain rfl := Host.Outcome.next.inj (hproc.symm.trans hexec)
  have hindex : phaseIndex s.engine.phase.toInt = 0 := by rw [hphase]; decide
  rw [hindex] at hoi' hoq'
  obtain rfl := Option.some.inj (hoi.symm.trans hoi')
  obtain rfl := Option.some.inj (hoq.symm.trans hoq')
  refine ⟨BitVec.ofInt 32 (s.engine.sample taps i q oi.toInt oq.toInt).1, ?_⟩
  simp only [State.respond_responses, State.withEngine_responses, procData, BitVec.ofInt_toInt]

/-- Settles O42: the error is 0, so the loop state is that of a sample with error 0. -/
theorem zeroSampleGivesZeroError : Obligations.ZeroSampleGivesZeroError := by
  intro s ⟨hm, hone, hthree, hfull⟩
  obtain ⟨oi, oq, taps, -, -, htaps, hexec⟩ := execProc_of_readyToSample hm hone hthree hfull 0 0
  have herror := sample_error_zero s.engine taps oi.toInt oq.toInt
  obtain ⟨-, hx1, hx2, -, hy2, -⟩ := sample_loop s.engine taps 0 0 oi.toInt oq.toInt
  have hy1 := sample_y1_toInt s.engine taps 0 0 oi.toInt oq.toInt
  rw [herror] at hx1 hy1
  refine ⟨_, _, hexec, rfl, rfl, ?phaseError, hx1, fun hd => ?magnitude, hx2, hy2, ?correction, mix_zero⟩
  case phaseError => rw [procData_phaseError_toInt, herror]
  case magnitude =>
    refine (sample_mag_cordic hd ..).trans ?_
    rw [mix_zero, detectCordic_zero]
    rfl
  case correction => exact hy1.trans (correction_eq_y0 htaps 0)

end Sys2Proof.Machine
end

section
/-! The configuration commands and the commands without operands (44_config_commands.md R170 to R172, R175 to R177): the
field check once for all words, then the meaning of each command as one chain of checks. -/

namespace Sys2Proof.Machine

open Sys2Proof.Spec

/-! ## The word of a command -/

/-- A word with one of the eight opcodes: the field check comes first, then the command runs (60_exceptions.md R197).
Each use gives `hbad` by a tactic, so that the goal fixes `bad` first. -/
theorem step_sent_opcode (m : Mnemonic) {a : BitVec 12} {d : BitVec 32} {bad : Prop} [Decidable bad]
    (hbad : Malformed m.opcode a d ↔ bad) {s t : State} (hexec : ¬ bad → exec (m.command a d) s = .next t) :
    step (sent s (pack m.opcode a d)) = .next (if bad then answered s s.engine .illegalField 0#64 else t) := by
  rcases outcome_of_opcode m a d with ⟨hm, hd⟩ | ⟨hm, hd⟩
  · rw [if_pos (hbad.mp hm)]
    exact step_of_illegalField (s := sent s (pack m.opcode a d)) rfl hd
  · have hgood : ¬ bad := fun hb => hm (hbad.mpr hb)
    rw [if_neg hgood]
    exact (step_of_command (s := sent s (pack m.opcode a d)) rfl hd).trans (hexec hgood)

/-! ## `NOP` and `RESET` -/

/-- Settles O16: past the field check a `NOP` only answers. -/
theorem nopCommand : Obligations.NopCommand :=
  ⟨fun _ => rfl, fun _ _ _ => step_sent_opcode .nop (by exact Iff.rfl) fun _ => rfl⟩

/-- `RESET`: the mode, then `CLEAR` (44_config_commands.md R177). -/
theorem exec_reset_eq (s : State) :
    exec .reset s = .next (if s.engine.mode ≠ .ready then answered s s.engine .illegalMode 0#64
      else answered s s.engine.clear .ok 0#64) := by
  rw [apply_ite Host.Outcome.next]
  rfl

/-- Settles O22: past the field check the word is `exec_reset_eq`. -/
theorem resetCommand : Obligations.ResetCommand :=
  ⟨fun _ hm => execReset_of_ready hm,
    fun s _ _ => step_sent_opcode .reset (by exact Iff.rfl) fun _ => exec_reset_eq s⟩

/-! ## `LDC` and `LDT` -/

/-- `LDC`: the mode, the room, then the append (44_config_commands.md R171). -/
theorem exec_ldc_eq (v : Int) (s : State) :
    exec (.ldc v) s = .next (if s.engine.mode ≠ .unconf then answered s s.engine .illegalMode 0#64
      else if 3 ≤ s.engine.coef.length then answered s s.engine .overfill 0#64
      else answered s (s.engine.pushCoef v) .ok 0#64) := by
  rw [apply_ite Host.Outcome.next, apply_ite Host.Outcome.next]
  rfl

theorem exec_ldc_of_room {s : State} (hm : s.engine.mode = .unconf) (room : s.engine.coef.length < 3) (v : Int) :
    exec (.ldc v) s = .next (answered s (s.engine.pushCoef v) .ok 0#64) := by
  rw [exec_ldc_eq, if_neg (not_not.mpr hm), if_neg room.not_ge]

/-- Settles O17: a store within its size has no room exactly when it holds three coefficients, and the operand of a word
is stored as the 32 bits the word carries. -/
theorem ldcCommand : Obligations.LdcCommand := by
  refine ⟨fun s v hm room => exec_ldc_of_room hm room v, fun s a d ⟨hcoef, _⟩ => ?_⟩
  refine step_sent_opcode .ldc (by exact Iff.rfl) fun _ => ?_
  have hfull : 3 ≤ s.engine.coef.length ↔ s.engine.coef.length = 3 := hcoef.ge_iff_eq
  have hpush : s.engine.pushCoef d.toInt = { s.engine with coef := s.engine.coef ++ [d] } := by
    rw [Engine.pushCoef, BitVec.ofInt_toInt]
  simp only [Mnemonic.command, exec_ldc_eq, hfull, hpush]

/-- `LDT`: the mode, the room, then the append (44_config_commands.md R172). -/
theorem exec_ldt_eq (v : Int) (s : State) :
    exec (.ldt v) s = .next (if s.engine.mode ≠ .unconf then answered s s.engine .illegalMode 0#64
      else if 2048 ≤ s.engine.tbl.length then answered s s.engine .overfill 0#64
      else answered s (s.engine.pushTbl v) .ok 0#64) := by
  rw [apply_ite Host.Outcome.next, apply_ite Host.Outcome.next]
  rfl

theorem exec_ldt_of_room {s : State} (hm : s.engine.mode = .unconf) (room : s.engine.tbl.length < 2048) (v : Int) :
    exec (.ldt v) s = .next (answered s (s.engine.pushTbl v) .ok 0#64) := by
  rw [exec_ldt_eq, if_neg (not_not.mpr hm), if_neg room.not_ge]

/-- Settles O18: as O17, with 2048 entries and the low 16 bits of the word. -/
theorem ldtCommand : Obligations.LdtCommand := by
  refine ⟨fun s v hm room => exec_ldt_of_room hm room v, fun s a d ⟨_, htbl⟩ => ?_⟩
  refine step_sent_opcode .ldt (by exact Iff.rfl) fun _ => ?_
  have hfull : 2048 ≤ s.engine.tbl.length ↔ s.engine.tbl.length = 2048 := htbl.ge_iff_eq
  have hpush : s.engine.pushTbl (d.extractLsb' 0 16).toInt =
      { s.engine with tbl := s.engine.tbl ++ [BitVec.ofNat 16 d.toNat] } := by
    rw [Engine.pushTbl, BitVec.ofInt_toInt]
    rfl
  simp only [Mnemonic.command, exec_ldt_eq, hfull, hpush]

/-! ## `INIT` -/

theorem execInit_of_invalid {s : State} (hm : s.engine.mode = .unconf) (hv : s.engine.validate ≠ .none)
    (det : Detector) : exec (.init det) s = raiseCfgError s s.engine.validate := by
  cases hc : s.engine.validate with
  | none => exact absurd hc hv
  | noCoef | coefRange | tblSize => simp [exec, execInit, hm, hc]

/-- `INIT`: the mode, then the validation as the statements write it (44_config_commands.md R175, R176). -/
theorem exec_init_eq (det : Detector) (s : State) :
    exec (.init det) s = .next (if s.engine.mode ≠ .unconf then answered s s.engine .illegalMode 0#64
      else if cause s.engine = .none then answered s (s.engine.start det) .ok 0#64
      else answered s (s.engine.fail (cause s.engine)) .cfgError 0#64) := by
  rw [← validate_eq_cause]
  split_ifs with hm hv
  · exact if_pos hm
  · exact execInit_of_valid (not_not.mp hm) hv det
  · exact execInit_of_invalid (not_not.mp hm) hv det

/-- The detector that a word of `INIT` with its upper bits zero selects (30_encoding.md R80). -/
theorem detectorOfBit_of_lt_two {d : BitVec 32} (h : d.toNat < 2) :
    detectorOfBit (d.extractLsb' 0 1) = if d = 0#32 then .rational else .cordic := by
  obtain rfl | rfl : d = 0#32 ∨ d = 1#32 := by bv_omega
  · rfl
  · rfl

/-- Settles O21: past the field check the word is `exec_init_eq` with the detector of its lowest bit. -/
theorem initCommand : Obligations.InitCommand := by
  refine ⟨fun s det hm hv => execInit_of_valid hm ((validate_eq_cause _).trans hv) det, fun s a d => ?_⟩
  refine step_sent_opcode .init (by exact Iff.rfl) fun hgood => ?_
  have hdet := detectorOfBit_of_lt_two (d := d) (by omega)
  rw [Mnemonic.command, hdet]
  exact exec_init_eq _ s

end Sys2Proof.Machine
end

section
/-! The two stores (10_state.md R24, R26; 20_memory.md R50): what an append leaves readable, and which commands write. -/

namespace Sys2Proof.Machine

open Sys2Proof.Spec

/-- Reading a list after one more element was put at its end. -/
theorem getElem?_append_singleton {α : Type} (l : List α) (x : α) (k : Nat) :
    (l ++ [x])[k]? = if k = l.length then some x else l[k]? := by
  rcases lt_trichotomy k l.length with hk | rfl | hk
  · rw [List.getElem?_append_left hk, if_neg hk.ne]
  · rw [List.getElem?_concat_length, if_pos rfl]
  · rw [if_neg hk.ne', List.getElem?_eq_none hk.le, List.getElem?_eq_none]
    simpa using hk

theorem tblAt_pushTbl {e : Engine} {v : Int} (hv : FitsSample v) (k : Nat) :
    (e.pushTbl v).tblAt k = if k = e.tblFill then some v else e.tblAt k := by
  rw [Engine.tblAt, Engine.pushTbl_tbl, getElem?_append_singleton, apply_ite (Option.map BitVec.toInt), Option.map_some,
    toInt_ofInt_16 hv.1 hv.2]
  rfl

theorem coefAt_pushCoef {e : Engine} {v : Int} (hv : FitsWord v) (j : Nat) :
    (e.pushCoef v).coefAt j = if j = e.coefFill then some v else e.coefAt j := by
  rw [Engine.coefAt, Engine.pushCoef_coef, getElem?_append_singleton, apply_ite (Option.map BitVec.toInt),
    Option.map_some, toInt_ofInt_32 hv.1 hv.2]
  rfl

/-- Which command can write which store (20_memory.md R50). -/
theorem exec_stores {i : Instr} {s t : State} (hexec : exec i s = .next t) :
    (t.engine.coef = s.engine.coef ∨ i.mnemonic = .ldc) ∧ (t.engine.tbl = s.engine.tbl ∨ i.mnemonic = .ldt) := by
  cases i with
  | nop =>
    obtain rfl := Host.Outcome.next.inj ((execNop_eq s).symm.trans hexec)
    exact ⟨.inl rfl, .inl rfl⟩
  | proc i q =>
    rcases execProc_cases hexec with ⟨-, rfl⟩ | ⟨-, oi, oq, taps, -, -, rfl⟩
    · exact ⟨.inl rfl, .inl rfl⟩
    · obtain ⟨-, -, -, hcoef, htbl⟩ := sample_frame s.engine taps i q oi oq
      exact ⟨.inl hcoef, .inl htbl⟩
  | ldc v => rcases execLdc_cases hexec with ⟨-, rfl⟩ | ⟨-, -, rfl⟩ | ⟨-, -, rfl⟩ <;> exact ⟨.inr rfl, .inl rfl⟩
  | ldt v => rcases execLdt_cases hexec with ⟨-, rfl⟩ | ⟨-, -, rfl⟩ | ⟨-, -, rfl⟩ <;> exact ⟨.inl rfl, .inr rfl⟩
  | rdreg r => rcases execRdreg_cases hexec with ⟨-, rfl⟩ | ⟨_, -, rfl⟩ <;> exact ⟨.inl rfl, .inl rfl⟩
  | rdt k => rcases execRdt_cases hexec with ⟨-, rfl⟩ | ⟨_, -, rfl⟩ <;> exact ⟨.inl rfl, .inl rfl⟩
  | init det => rcases execInit_cases hexec with ⟨-, rfl⟩ | ⟨-, -, rfl⟩ | ⟨-, -, rfl⟩ <;> exact ⟨.inl rfl, .inl rfl⟩
  | reset => rcases execReset_cases hexec with ⟨-, rfl⟩ | ⟨-, rfl⟩ <;> exact ⟨.inl rfl, .inl rfl⟩

/-- Settles O25: an `LDT` with room appends; any other command leaves the table by `exec_stores`. -/
theorem tableWrittenOnlyByLdt : Obligations.TableWrittenOnlyByLdt := by
  refine ⟨fun s v hv hm room => ⟨_, exec_ldt_of_room hm room v, ?fill, tblAt_pushTbl hv⟩,
    fun i s t hi hexec => ?frame⟩
  case fill => exact List.length_append
  case frame =>
    have htbl : t.engine.tbl = s.engine.tbl := (exec_stores hexec).2.resolve_right hi
    exact ⟨congrArg List.length htbl, fun k => by rw [Engine.tblAt, Engine.tblAt, htbl]⟩

/-- Settles O26: an `LDC` with room appends; any other command leaves the coefficients by `exec_stores`. -/
theorem coefficientsWrittenOnlyByLdc : Obligations.CoefficientsWrittenOnlyByLdc := by
  refine ⟨fun s v hv hm room => ⟨_, exec_ldc_of_room hm room v, ?fill, coefAt_pushCoef hv⟩,
    fun i s t hi hexec => ?frame⟩
  case fill => exact List.length_append
  case frame =>
    have hcoef : t.engine.coef = s.engine.coef := (exec_stores hexec).1.resolve_right hi
    exact ⟨congrArg List.length hcoef, fun j => by rw [Engine.coefAt, Engine.coefAt, hcoef]⟩

end Sys2Proof.Machine
end

section
/-! The read-back commands (44_config_commands.md R173, R174): each register's value as the 32-bit pattern that the
register map of the statements writes at its address (10_state.md R35 to R44). -/

namespace Sys2Proof.Machine

open Sys2Proof.Spec

/-! ## `RDT` -/

/-- A read of an entry answers the entry sign-extended (44_config_commands.md R174). -/
theorem exec_rdt_of_entry {s : State} {k : Nat} {v : Sample} (h : s.engine.tbl[k]? = some v) :
    exec (.rdt k) s = .next (answered s s.engine .ok (0#32 ++ v.signExtend 32)) := by
  obtain ⟨hk, rfl⟩ := List.getElem?_eq_some_iff.mp h
  exact execRdt_of_written hk

/-- Settles O20: past the field check the index is the whole of `a`, and the entry was written or not. -/
theorem rdtCommand : Obligations.RdtCommand := by
  refine ⟨fun s k v h => exec_rdt_of_entry h, fun s a d => ?_⟩
  refine step_sent_opcode .rdt (by exact Iff.rfl) fun hgood => ?_
  have hindex : (a.extractLsb' 0 11).toNat = a.toNat := by
    rw [BitVec.extractLsb'_toNat, Nat.shiftRight_zero]
    exact Nat.mod_eq_of_lt (by omega)
  rw [Mnemonic.command, hindex]
  split
  next hnone => exact execRdt_of_unwritten (List.getElem?_eq_none_iff.mp hnone)
  next v hv => exact exec_rdt_of_entry hv

/-! ## The patterns of the registers -/

/-- The fields of `STATUS` at their places (10_state.md R36). -/
theorem statusWord_eq (e : Engine) :
    e.statusWord = BitVec.ofNat 32 (modeNumber e.mode + 16 * causeNumber e.cfgerr + 256 * detNumber e.det) := by
  unfold Engine.statusWord
  cases e.mode <;> cases e.cfgerr <;> cases e.det <;> rfl

/-- An unsigned register is read zero-extended (10_state.md R30, R31, R35). -/
theorem ofInt_toNat {n w : Nat} (x : BitVec n) : BitVec.ofInt w (x.toNat : Int) = x.setWidth w := by
  rw [BitVec.ofInt_natCast, BitVec.ofNat_toNat]

/-- A loaded coefficient is read as it is stored (10_state.md R39). -/
theorem coefAt_pattern (e : Engine) (j : Nat) : (e.coefAt j).map (BitVec.ofInt 32) = e.coef[j]? := by
  cases h : e.coef[j]? with
  | none => simp [Engine.coefAt, h]
  | some c => simp [Engine.coefAt, h, BitVec.ofInt_toInt]

/-- `A1` and `A2` by the number of coefficients loaded (10_state.md R40). -/
theorem implied_pattern {e : Engine} (h : e.coef.length ≤ 3) :
    e.impliedA1.map (BitVec.ofInt 32) = a1Word e.coef.length ∧
    e.impliedA2.map (BitVec.ofInt 32) = a2Word e.coef.length := by
  unfold Engine.impliedA1 Engine.impliedA2 Engine.taps
  match e.coef, h with
  | [], _ => exact ⟨rfl, rfl⟩
  | [_], _ => exact ⟨rfl, rfl⟩
  | [_, _], _ => exact ⟨rfl, rfl⟩
  | [_, _, _], _ => exact ⟨rfl, rfl⟩

/-- The value of every register, as its pattern, is what the statements' map has at the register's address. -/
theorem regValue_pattern {e : Engine} (h : Memory.wf e) (r : Reg) :
    (e.regValue r).map (BitVec.ofInt 32) = registerWord e r.addr := by
  cases r with
  | status => exact congrArg some ((ofInt_toNat _).trans ((BitVec.setWidth_eq _).trans (statusWord_eq e)))
  | coefFill | tblFill => exact congrArg some (BitVec.ofInt_natCast ..)
  | b0 | b1 | b2 => exact coefAt_pattern e _
  | a1 => exact (implied_pattern h.1).1
  | a2 => exact (implied_pattern h.1).2
  | phase | x1 | x2 => exact congrArg some BitVec.ofInt_toInt
  | y1 | y2 => rfl
  | qerr => exact congrArg some (ofInt_toNat e.qerr)
  | mag => exact congrArg some ((ofInt_toNat e.mag).trans (BitVec.setWidth_eq _))
  | sw | sf | logn | k | pf | pw | ew | aw | yw | cw | ff | errScale | iters => rfl
  | atan0 | atan1 | atan2 | atan3 | atan4 | atan5 | cgain => rfl

/-! ## The addresses -/

/-- No two registers have one address (10_state.md R35). -/
theorem atAddr_addr (r : Reg) : Reg.atAddr r.addr = some r := by
  cases r <;> rfl

/-- An address without a register has no value in the statements' map (10_state.md R44). -/
theorem registerWord_of_no_register {e : Engine} {a : Nat} (h : ∀ r : Reg, a ≠ r.addr) : registerWord e a = none := by
  have hconstants : ∀ p ∈ constantRegisters, ∃ r ∈ Reg.all, p.1 = r.addr := by decide
  have hfind : constantRegisters.find? (fun p => p.1 == a) = none := by
    refine List.find?_eq_none.mpr fun p hp => ?_
    obtain ⟨r, -, hr⟩ := hconstants p hp
    simpa [hr] using (h r).symm
  have hne : ∀ r ∈ Reg.all, a ≠ r.addr := fun r _ => h r
  simp only [Reg.all, List.forall_mem_cons, Reg.addr] at hne
  simp only [registerWord, hne, if_false, hfind, Option.map_none]

theorem atAddr_of_no_register {a : Nat} (h : ∀ r : Reg, a ≠ r.addr) : Reg.atAddr a = none :=
  List.find?_eq_none.mpr fun r _ => by simpa using (h r).symm

/-- The register map of the model is that of the statements, at every address (10_state.md R35 to R44). -/
theorem readAddr_pattern {e : Engine} (h : Memory.wf e) (a : Nat) :
    (e.readAddr a).map (BitVec.ofInt 32) = registerWord e a := by
  by_cases hreg : ∃ r : Reg, a = r.addr
  · obtain ⟨r, rfl⟩ := hreg
    rw [Engine.readAddr, atAddr_addr, Option.bind_some, regValue_pattern h]
  · have hnone := not_exists.mp hreg
    rw [Engine.readAddr, atAddr_of_no_register hnone, Option.bind_none, Option.map_none,
      registerWord_of_no_register hnone]

/-! ## `RDREG` -/

theorem exec_rdreg_of_word {s : State} {r : Nat} {v : RegWord} (hwf : Memory.wf s.engine)
    (h : registerWord s.engine r = some v) : exec (.rdreg r) s = .next (answered s s.engine .ok (0#32 ++ v)) := by
  rw [← readAddr_pattern hwf] at h
  obtain ⟨x, hx, rfl⟩ := Option.map_eq_some_iff.mp h
  exact execRdreg_of_value hx

theorem exec_rdreg_of_no_word {s : State} {r : Nat} (hwf : Memory.wf s.engine)
    (h : registerWord s.engine r = none) : exec (.rdreg r) s = .next (answered s s.engine .badAddr 0#64) := by
  rw [← readAddr_pattern hwf] at h
  exact execRdreg_of_no_value (Option.map_eq_none_iff.mp h)

/-- Settles O19: by whether the map has a value at the address; the address is the whole of `a`. -/
theorem rdregCommand : Obligations.RdregCommand := by
  refine ⟨fun s r v hwf h => exec_rdreg_of_word hwf h, fun s r hwf h => exec_rdreg_of_no_word hwf h,
    fun s a d hwf => ?_⟩
  refine step_sent_opcode .rdreg (by exact Iff.rfl) fun _ => ?_
  split
  next hnone => exact exec_rdreg_of_no_word hwf hnone
  next v hv => exact exec_rdreg_of_word hwf hv

end Sys2Proof.Machine
end

section
/-! Exceptions (60_exceptions.md R190 to R202, R206): every answer of a command is one of five kinds, by the mode and by
the check that failed; an error leaves the engine, and in `FAILED` there is nothing but errors and reads. -/

namespace Sys2Proof.Machine

open Sys2Proof.Spec

/-! ## Words that are no command, and no word at all -/

/-- Settles O10. -/
theorem stepWithoutInputHoldsState : Obligations.StepWithoutInputHoldsState := fun _ => step_of_no_input

/-- Settles O9: the decoder looks at the opcode first, and with one of the eight the field check decides. -/
theorem illegalWordsAreAnswered : Obligations.IllegalWordsAreAnswered := by
  refine fun s op a d => ⟨fun hop => ?reserved, fun hop hbad => ?malformed⟩
  case reserved => exact step_of_illegalOp (s := sent s (pack op a d)) rfl (decode_of_reserved hop a d)
  case malformed =>
    obtain ⟨m, rfl⟩ := (opcode_cases op).resolve_left hop.not_ge
    obtain ⟨-, hd⟩ := (outcome_of_opcode m a d).resolve_right fun hgood => hgood.1 hbad
    exact step_of_illegalField (s := sent s (pack m.opcode a d)) rfl hd

/-! ## Legality -/

theorem legal_proc_iff (m : Mode) : legal .proc m = true ↔ m = .ready := by cases m <;> decide

theorem legal_reset_iff (m : Mode) : legal .reset m = true ↔ m = .ready := by cases m <;> decide

/-- The three commands that load and start are legal in `UNCONF` only (60_exceptions.md R201). -/
theorem legal_configure_iff {c : Mnemonic} (hc : c = .ldc ∨ c = .ldt ∨ c = .init) (m : Mode) :
    legal c m = true ↔ m = .unconf := by
  rcases hc with rfl | rfl | rfl <;> cases m <;> decide

theorem legal_failed_iff (c : Mnemonic) : legal c .failed = true ↔ c = .rdreg ∨ c = .rdt ∨ c = .nop := by
  cases c <;> decide

/-- A command not legal in the mode gets no further than its mode check (60_exceptions.md R193). -/
theorem exec_of_illegal {i : Instr} {s : State} (h : legal i.mnemonic s.engine.mode = false) :
    exec i s = raise s .illegalMode := by
  have hnot : ¬ legal i.mnemonic s.engine.mode = true := Bool.eq_false_iff.mp h
  cases i with
  | nop | rdreg | rdt => cases h
  | proc i q => exact execProc_of_not_ready (mt (legal_proc_iff _).mpr hnot) i q
  | reset => exact if_pos (mt (legal_reset_iff _).mpr hnot)
  | ldc | ldt | init => exact if_pos (mt (legal_configure_iff (by simp [Instr.mnemonic]) _).mpr hnot)

/-! ## Everything a command can answer -/

/-- What the machine is after a command that is legal in the mode: it completed, or it read what has no value, or it found
its store full, or it is an `INIT` that failed (60_exceptions.md R194 to R196). -/
inductive AnsweredLegally (s : State) : State → Prop
  | ok (e : Engine) (data : RspData) : AnsweredLegally s (answered s e .ok data)
  | badAddr : AnsweredLegally s (answered s s.engine .badAddr 0#64)
  | overfill : AnsweredLegally s (answered s s.engine .overfill 0#64)
  | cfgError (cause : CfgErr) : AnsweredLegally s (answered s (s.engine.fail cause) .cfgError 0#64)

/-- Every command passes its mode check and answers in one of the four ways, or is answered `ILLEGAL_MODE`. -/
theorem exec_answers {i : Instr} {s t : State} (hexec : exec i s = .next t) :
    (legal i.mnemonic s.engine.mode = false ∧ t = answered s s.engine .illegalMode 0#64) ∨
    (legal i.mnemonic s.engine.mode = true ∧ AnsweredLegally s t) := by
  cases hlegal : legal i.mnemonic s.engine.mode with
  | false => exact .inl ⟨rfl, (Host.Outcome.next.inj ((exec_of_illegal hlegal).symm.trans hexec)).symm⟩
  | true =>
    refine .inr ⟨rfl, ?_⟩
    cases i with
    | nop =>
      obtain rfl := Host.Outcome.next.inj ((execNop_eq s).symm.trans hexec)
      exact .ok ..
    | proc i q =>
      rcases execProc_cases hexec with ⟨hm, -⟩ | ⟨-, _, _, _, -, -, rfl⟩
      · exact absurd ((legal_proc_iff _).mp hlegal) hm
      · exact .ok ..
    | ldc v =>
      rcases execLdc_cases hexec with ⟨hm, -⟩ | ⟨-, -, rfl⟩ | ⟨-, -, rfl⟩
      · exact absurd ((legal_configure_iff (.inl rfl) _).mp hlegal) hm
      · exact .overfill
      · exact .ok ..
    | ldt v =>
      rcases execLdt_cases hexec with ⟨hm, -⟩ | ⟨-, -, rfl⟩ | ⟨-, -, rfl⟩
      · exact absurd ((legal_configure_iff (.inr (.inl rfl)) _).mp hlegal) hm
      · exact .overfill
      · exact .ok ..
    | rdreg r =>
      rcases execRdreg_cases hexec with ⟨-, rfl⟩ | ⟨_, -, rfl⟩
      · exact .badAddr
      · exact .ok ..
    | rdt k =>
      rcases execRdt_cases hexec with ⟨-, rfl⟩ | ⟨_, -, rfl⟩
      · exact .badAddr
      · exact .ok ..
    | init det =>
      rcases execInit_cases hexec with ⟨hm, -⟩ | ⟨-, -, rfl⟩ | ⟨-, -, rfl⟩
      · exact absurd ((legal_configure_iff (.inr (.inr rfl)) _).mp hlegal) hm
      · exact .ok ..
      · exact .cfgError _
    | reset =>
      rcases execReset_cases hexec with ⟨hm, -⟩ | ⟨-, rfl⟩
      · exact absurd ((legal_reset_iff _).mp hlegal) hm
      · exact .ok ..

theorem AnsweredLegally.status_ne_illegalMode {s t : State} {r : Response} (h : AnsweredLegally s t)
    (hr : t.responses = s.responses ++ [r]) : r.status ≠ .illegalMode := by
  cases h <;>
    · obtain rfl := List.singleton_inj.mp (List.append_cancel_left hr)
      exact nofun

/-- Settles O29: the mode check comes first, and none of the four answers after it is `ILLEGAL_MODE`. -/
theorem commandLegalityByMode : Obligations.CommandLegalityByMode := by
  refine fun i s => ⟨fun hillegal => exec_of_illegal hillegal, fun hlegal t r hexec hr => ?legal⟩
  case legal =>
    rcases exec_answers hexec with ⟨hillegal, -⟩ | ⟨-, hanswer⟩
    · exact absurd hillegal (by simp [hlegal])
    · exact hanswer.status_ne_illegalMode hr

/-! ## Errors leave the engine -/

/-- One response tells how far the engine may have changed from `s` to `t`: not at all with an error, and in `MODE` and
`CFGERR` only with `CFG_ERROR` (60_exceptions.md R198). -/
def ErrorLeaves (s t : State) : Prop :=
  ∃ r : Response, t.responses = s.responses ++ [r] ∧
    (r.status ≠ .ok → r.status ≠ .cfgError → t.engine = s.engine) ∧
    (r.status = .cfgError → t.engine = { s.engine with mode := t.engine.mode, cfgerr := t.engine.cfgerr })

theorem errorLeaves_of_same (s : State) (st : Status) (d : RspData) : ErrorLeaves s (answered s s.engine st d) :=
  ⟨⟨st, d⟩, rfl, fun _ _ => rfl, fun _ => rfl⟩

theorem exec_errorLeaves {i : Instr} {s t : State} (hexec : exec i s = .next t) : ErrorLeaves s t := by
  rcases exec_answers hexec with ⟨-, rfl⟩ | ⟨-, hanswer⟩
  · exact errorLeaves_of_same ..
  · cases hanswer with
    | ok e d => exact ⟨⟨.ok, d⟩, rfl, fun hne => absurd rfl hne, nofun⟩
    | badAddr | overfill => exact errorLeaves_of_same ..
    | cfgError cause => exact ⟨⟨.cfgError, 0#64⟩, rfl, fun _ hne => absurd rfl hne, fun _ => rfl⟩

/-- Settles O28: a word that is no command only answers, a command is `exec_errorLeaves`. -/
theorem errorsLeaveTheStateUnchanged : Obligations.ErrorsLeaveTheStateUnchanged := by
  intro s w t hstep
  match hd : decode w with
  | .illegalOp =>
    obtain rfl := Host.Outcome.next.inj ((step_of_illegalOp (s := sent s w) rfl hd).symm.trans hstep)
    exact errorLeaves_of_same s .illegalOp 0#64
  | .illegalField =>
    obtain rfl := Host.Outcome.next.inj ((step_of_illegalField (s := sent s w) rfl hd).symm.trans hstep)
    exact errorLeaves_of_same s .illegalField 0#64
  | .command i => exact exec_errorLeaves ((step_of_command (s := sent s w) rfl hd).symm.trans hstep)

/-! ## `FAILED` -/

/-- In `FAILED` a command reads or is illegal, so the engine stays as it is (60_exceptions.md R199). -/
theorem exec_of_failed {s : State} (hm : s.engine.mode = .failed) (i : Instr) :
    ∃ r : Response, exec i s = .next (answered s s.engine r.status r.data) ∧
      (r.status = .illegalMode ↔ legal i.mnemonic .failed = false) := by
  cases hlegal : legal i.mnemonic .failed with
  | false => exact ⟨⟨.illegalMode, 0#64⟩, exec_of_illegal (hm ▸ hlegal), iff_of_true rfl rfl⟩
  | true =>
    obtain ⟨r, hread⟩ := exec_read_of_engine ((legal_failed_iff _).mp hlegal) s.engine
    have hne : r.status ≠ .illegalMode := (commandLegalityByMode i s).2 (hm ▸ hlegal) _ r (hread s rfl) rfl
    exact ⟨r, hread s rfl, iff_of_false hne nofun⟩

/-- `STATUS` is the first register of the map, and it always has a value (10_state.md R36). -/
theorem exec_rdreg_status (s : State) :
    exec (.rdreg 0x000) s = .next (answered s s.engine .ok (0#32 ++ s.engine.statusWord)) := by
  have hvalue : s.engine.readAddr 0x000 = some (s.engine.statusWord.toNat : Int) := rfl
  have hdata : readData (s.engine.statusWord.toNat : Int) = 0#32 ++ s.engine.statusWord := by
    rw [readData, ofInt_toNat, BitVec.setWidth_eq]
  rw [← hdata]
  exact execRdreg_of_value hvalue

/-- `STATUS` in `FAILED`, as the 64 bits of a response: mode 2, the cause, the detector (10_state.md R36). -/
theorem statusWord_of_failed {e : Engine} (hm : e.mode = .failed) :
    0#32 ++ e.statusWord = BitVec.ofNat 64 (2 + 16 * causeNumber e.cfgerr + 256 * detNumber e.det) := by
  rw [statusWord_eq, hm]
  cases e.cfgerr <;> cases e.det <;> rfl

/-- Settles O31: a word that is no command only answers, a command is `exec_of_failed`, and a reset clears the mode. -/
theorem failedIsLeftOnlyByHardwareReset : Obligations.FailedIsLeftOnlyByHardwareReset := by
  refine ⟨fun s w hm => ?answers, fun s hm => ⟨rfl, ?status⟩, fun s rest _ hp => ⟨_, step_of_hardwareReset hp, rfl⟩⟩
  case status => rw [exec_rdreg_status, statusWord_of_failed hm]
  case answers =>
    match hd : decode w with
    | .illegalOp => exact ⟨⟨.illegalOp, 0#64⟩, step_of_illegalOp (s := sent s w) rfl hd, nofun⟩
    | .illegalField => exact ⟨⟨.illegalField, 0#64⟩, step_of_illegalField (s := sent s w) rfl hd, nofun⟩
    | .command i =>
      obtain ⟨r, hexec, hstatus⟩ := exec_of_failed hm i
      refine ⟨r, (step_of_command (s := sent s w) rfl hd).trans hexec, fun j hj => ?_⟩
      obtain rfl := Decoded.command.inj hj
      rw [hstatus, ← Bool.not_eq_true, legal_failed_iff]
      tauto

/-! ## `PROC` in `READY` -/

/-- Settles O36: the invariant gives the sample its table and its coefficients, and every command keeps the invariant. -/
theorem procIsTotalInReady : Obligations.ProcIsTotalInReady := by
  intro s i q hinv hm _
  obtain ⟨-, hone, hthree, hfull⟩ := hinv.readyToSample hm
  obtain ⟨_, _, _, -, -, -, hexec⟩ := execProc_of_readyToSample hm hone hthree hfull i q
  exact ⟨_, ⟨.ok, _⟩, hexec, rfl, rfl, exec_inv (i := .proc i q) hinv hexec⟩

end Sys2Proof.Machine
end

section
/-! Hardware reset (70_reset_and_hazards.md R210, R211), runs (R219, R220), the configuration in `READY` (R214) and the
bring-up (R212). -/

namespace Sys2Proof.Machine

open Sys2Proof.Spec

/-! ## Hardware reset -/

/-- Settles O11: the step is `step_of_hardwareReset`; the reads fail because both stores are empty. -/
theorem hardwareResetTakesResetState : Obligations.HardwareResetTakesResetState := by
  refine fun s rest hp => ⟨_, step_of_hardwareReset hp, rfl, rfl, rfl, fun k => ?table, fun r hr => ?coefficients⟩
  case table => exact execRdt_of_unwritten (s := (s.withPending rest).hardwareReset) (Nat.zero_le k)
  case coefficients =>
    have hnone : ∀ r ∈ [0x010, 0x011, 0x012, 0x013, 0x014], Engine.reset.readAddr r = none := by decide
    exact execRdreg_of_no_value (s := (s.withPending rest).hardwareReset) (hnone r hr)

/-- A command word that is carried out is answered once, whatever it decodes to (30_encoding.md R71). -/
theorem step_command_answeredOnce {s t : State} {w : CmdWord} {rest : List HostInput}
    (hp : s.pending = .command w :: rest) (hstep : step s = .next t) : AnsweredOnce (s.withPending rest) t := by
  match hd : decode w with
  | .illegalOp =>
    obtain rfl := Host.Outcome.next.inj ((step_of_illegalOp hp hd).symm.trans hstep)
    exact answeredOnce_zero _ s.engine .illegalOp
  | .illegalField =>
    obtain rfl := Host.Outcome.next.inj ((step_of_illegalField hp hd).symm.trans hstep)
    exact answeredOnce_zero _ s.engine .illegalField
  | .command i => exact exec_answeredOnce ((step_of_command hp hd).symm.trans hstep)

/-- Settles O12: after the command the reset is the next input, and either reset leaves the same engine and inputs. -/
theorem abandonedCommandEqualsResetAfterIt : Obligations.AbandonedCommandEqualsResetAfterIt := by
  intro s w rest t hstep
  obtain ⟨_, hpending, -, -⟩ := step_command_answeredOnce rfl hstep
  exact ⟨_, step_of_hardwareReset hpending, step_of_abandoned rfl⟩

/-! ## Runs -/

/-- A run that gives a state took its first step to a state, and the run of the other steps from there. -/
theorem run_succ_eq_next {k : Nat} {s t : State} (h : Host.Core.run Sys2Proof.core (k + 1) s = .next t) :
    ∃ u, step s = .next u ∧ Host.Core.run Sys2Proof.core k u = .next t := by
  match hstep : step s with
  | .next u => exact ⟨u, rfl, (run_next k hstep).symm.trans h⟩
  | .fault f => exact nomatch (run_fault k hstep).symm.trans h
  | .refused r => exact nomatch (run_refused k hstep).symm.trans h

/-- What every step keeps, every run keeps. -/
theorem run_induction {P : State → Prop} (hkeep : ∀ {s t : State}, P s → step s = .next t → P t) {k : Nat}
    {s t : State} (hs : P s) (hrun : Host.Core.run Sys2Proof.core k s = .next t) : P t := by
  induction k generalizing s with
  | zero => exact Host.Outcome.next.inj hrun ▸ hs
  | succ k ih =>
    obtain ⟨u, hstep, hrest⟩ := run_succ_eq_next hrun
    exact ih (hkeep hs hstep) hrest

/-- A step takes one input, and adds a response for a command word only (30_encoding.md R71; 70_reset_and_hazards.md R210,
R211). -/
theorem step_takes_input {s t : State} {x : HostInput} {rest : List HostInput} (hp : s.pending = x :: rest)
    (hstep : step s = .next t) :
    t.pending = rest ∧ t.responses.length = s.responses.length + ([x].filter isCommand).length := by
  cases x with
  | command w =>
    obtain ⟨r, hpending, hresponses, -⟩ := step_command_answeredOnce hp hstep
    exact ⟨hpending, (congrArg List.length hresponses).trans List.length_append⟩
  | hardwareReset =>
    obtain rfl := Host.Outcome.next.inj ((step_of_hardwareReset hp).symm.trans hstep)
    exact ⟨rfl, rfl⟩
  | abandoned w =>
    obtain rfl := Host.Outcome.next.inj ((step_of_abandoned hp).symm.trans hstep)
    exact ⟨rfl, rfl⟩

/-- From a state of the invariant all inputs are carried out, and each command word is answered once. -/
theorem run_carries_out {l : List HostInput} {s : State} (hinv : s.Inv) (hp : s.pending = l) :
    ∃ t : State, Host.Core.run Sys2Proof.core l.length s = .next t ∧ t.pending = [] ∧
      t.responses.length = s.responses.length + (l.filter isCommand).length ∧ t.Inv := by
  induction l generalizing s with
  | nil => exact ⟨s, rfl, hp, rfl, hinv⟩
  | cons x rest ih =>
    obtain ⟨u, hstep⟩ := stepNeverStops s hinv
    obtain ⟨hpending, hcount⟩ := step_takes_input hp hstep
    obtain ⟨t, hrun, hempty, hlength, ht⟩ := ih (stepKeepsInvariant s u hinv hstep) hpending
    refine ⟨t, (run_next rest.length hstep).trans hrun, hempty, ?_, ht⟩
    calc t.responses.length
        = s.responses.length + (([x].filter isCommand).length + (rest.filter isCommand).length) := by
          rw [hlength, hcount, Nat.add_assoc]
      _ = s.responses.length + ((x :: rest).filter isCommand).length := by
          rw [← List.length_append, ← List.filter_append, List.singleton_append]

/-- Settles O37: the reset state has the invariant and no responses yet. -/
theorem everyHostSequenceIsCarriedOut : Obligations.EveryHostSequenceIsCarriedOut := by
  intro l
  obtain ⟨t, hrun, hempty, hlength, ht⟩ :=
    run_carries_out (s := { State.reset with pending := l }) resetStateHasInvariant rfl
  exact ⟨t, hrun, hempty, hlength.trans (Nat.zero_add _), ht⟩

/-! ## The configuration in `READY` -/

/-- The engine `f` is in `READY` with the configuration of `e` (70_reset_and_hazards.md R214). -/
structure ReadyWithConfigurationOf (e f : Engine) : Prop where
  mode : f.mode = .ready
  det : f.det = e.det
  coef : f.coef = e.coef
  tbl : f.tbl = e.tbl

theorem ReadyWithConfigurationOf.trans {e f g : Engine} (h : ReadyWithConfigurationOf e f)
    (h' : ReadyWithConfigurationOf f g) : ReadyWithConfigurationOf e g :=
  ⟨h'.mode, h'.det.trans h.det, h'.coef.trans h.coef, h'.tbl.trans h.tbl⟩

/-- In `READY` the commands that configure are illegal, and the others write the loop state at most. -/
theorem exec_of_ready {i : Instr} {s t : State} (hm : s.engine.mode = .ready) (hexec : exec i s = .next t) :
    ReadyWithConfigurationOf s.engine t.engine := by
  have unchanged {st : Status} {d : RspData} (hanswer : exec i s = .next (answered s s.engine st d)) :
      ReadyWithConfigurationOf s.engine t.engine := by
    obtain rfl := Host.Outcome.next.inj (hanswer.symm.trans hexec)
    exact ⟨hm, rfl, rfl, rfl⟩
  have reads (hi : i.mnemonic = .rdreg ∨ i.mnemonic = .rdt ∨ i.mnemonic = .nop) :
      ReadyWithConfigurationOf s.engine t.engine := by
    obtain ⟨r, hread⟩ := exec_read_of_engine hi s.engine
    exact unchanged (hread s rfl)
  cases i with
  | nop | rdreg | rdt => exact reads (by simp [Instr.mnemonic])
  | ldc | ldt | init => exact unchanged (exec_of_illegal (by rw [hm]; rfl))
  | proc i q =>
    rcases execProc_cases hexec with ⟨-, rfl⟩ | ⟨-, oi, oq, taps, -, -, rfl⟩
    · exact ⟨hm, rfl, rfl, rfl⟩
    · obtain ⟨hmode, -, hdet, hcoef, htbl⟩ := sample_frame s.engine taps i q oi oq
      exact ⟨hmode.trans hm, hdet, hcoef, htbl⟩
  | reset =>
    obtain rfl := Host.Outcome.next.inj ((execReset_of_ready hm).symm.trans hexec)
    exact ⟨hm, rfl, rfl, rfl⟩

/-- The machine is in `READY` with the configuration of `e`, and no reset is among its inputs to come. -/
def FrozenWith (e : Engine) (s : State) : Prop :=
  ReadyWithConfigurationOf e s.engine ∧ ∀ x ∈ s.pending, isCommand x = true

theorem step_frozenWith {e : Engine} {s t : State} (h : FrozenWith e s) (hstep : step s = .next t) :
    FrozenWith e t := by
  obtain ⟨hconfigured, hcommands⟩ := h
  rcases step_cases hstep with ⟨-, rfl⟩ | ⟨x, rest, hp, hx, -⟩ | ⟨w, rest, st, hp, -, rfl⟩ | ⟨w, rest, i, hp, -, hexec⟩
  · exact ⟨hconfigured, hcommands⟩
  · have hcommand : isCommand x = true := hcommands x (hp ▸ List.mem_cons_self)
    rcases hx with rfl | ⟨w, rfl⟩ <;> cases hcommand
  · exact ⟨hconfigured, fun x hx => hcommands x (hp ▸ List.mem_cons_of_mem _ hx)⟩
  · have hpending : t.pending = rest := (exec_pending_responses hexec).1
    refine ⟨hconfigured.trans (exec_of_ready (s := s.withPending rest) hconfigured.mode hexec), fun x hx => ?_⟩
    exact hcommands x (hp ▸ List.mem_cons_of_mem _ (hpending ▸ hx))

/-- Settles O32: `step_frozenWith`, for every number of steps. -/
theorem configurationIsFrozenInReady : Obligations.ConfigurationIsFrozenInReady := by
  intro k s t hm hcommands hrun
  have hstart : FrozenWith s.engine s := ⟨⟨hm, rfl, rfl, rfl⟩, hcommands⟩
  obtain ⟨⟨hmode, hdet, hcoef, htbl⟩, -⟩ := run_induction step_frozenWith hstart hrun
  exact ⟨hmode, hdet, hcoef, htbl⟩

/-! ## Bring-up -/

/-- The engine after the loads `l`: both stores have grown by what `l` loads into them. -/
def Engine.loaded (e : Engine) (l : List Instr) : Engine :=
  { e with
    coef := e.coef ++ (coefficientsOf l).map (BitVec.ofInt 32)
    tbl := e.tbl ++ (entriesOf l).map (BitVec.ofInt 16) }

theorem Engine.loaded_nil (e : Engine) : e.loaded [] = e := by
  simp [Engine.loaded, coefficientsOf, entriesOf]

theorem Engine.loaded_append (e : Engine) (l m : List Instr) : e.loaded (l ++ m) = (e.loaded l).loaded m := by
  simp [Engine.loaded, coefficientsOf, entriesOf]

theorem Engine.loaded_ldc (e : Engine) (v : Int) : e.loaded [.ldc v] = e.pushCoef v := by
  simp [Engine.loaded, Engine.pushCoef, coefficientsOf, entriesOf]

theorem Engine.loaded_ldt (e : Engine) (v : Int) : e.loaded [.ldt v] = e.pushTbl v := by
  simp [Engine.loaded, Engine.pushTbl, coefficientsOf, entriesOf]

/-- Loading only fills, so what fits after the loads has fitted before them. -/
theorem Memory.wf_of_loaded {e : Engine} {l : List Instr} (h : Memory.wf (e.loaded l)) : Memory.wf e :=
  ⟨(List.sublist_append_left ..).length_le.trans h.1, (List.sublist_append_left ..).length_le.trans h.2⟩

/-- A load in `UNCONF` whose store stays within its size (44_config_commands.md R171, R172). -/
theorem exec_load {i : Instr} {s : State} (hload : isLoad i = true) (hm : s.engine.mode = .unconf)
    (hfits : Memory.wf (s.engine.loaded [i])) : exec i s = .next (answered s (s.engine.loaded [i]) .ok 0#64) := by
  cases i with
  | nop | proc | rdreg | rdt | init | reset => cases hload
  | ldc v =>
    rw [Engine.loaded_ldc] at hfits ⊢
    exact exec_ldc_of_room hm (by simpa using hfits.1) v
  | ldt v =>
    rw [Engine.loaded_ldt] at hfits ⊢
    exact exec_ldt_of_room hm (by simpa using hfits.2) v

/-- The host's input that sends the word of a command. -/
def sendOf (i : Instr) : HostInput := .command (encode i)

/-- The word of a well-formed command runs that command (30_encoding.md R79, R80). -/
theorem step_of_sendOf {s : State} {i : Instr} {rest : List HostInput} (hwf : i.WellFormed)
    (hp : s.pending = sendOf i :: rest) : step s = exec i (s.withPending rest) :=
  step_of_command hp (decodeEncodeRoundTrip i hwf)

/-- A sequence of loads that fits the stores appends to both in order, and answers `OK` to each; `k` steps follow. -/
theorem run_loads (k : Nat) {loads : List Instr} {s : State} {rest : List HostInput}
    (hloads : ∀ i ∈ loads, isLoad i = true ∧ i.WellFormed) (hm : s.engine.mode = .unconf)
    (hfits : Memory.wf (s.engine.loaded loads)) (hp : s.pending = loads.map sendOf ++ rest) :
    Host.Core.run Sys2Proof.core (loads.length + k) s = Host.Core.run Sys2Proof.core k
      ({ engine := s.engine.loaded loads, pending := rest,
         responses := s.responses ++ List.replicate loads.length ⟨.ok, 0#64⟩ } : State) := by
  induction loads generalizing s with
  | nil =>
    obtain ⟨e, pending, responses⟩ := s
    obtain rfl : pending = rest := hp
    simp [Engine.loaded_nil]
  | cons i loads ih =>
    obtain ⟨⟨hload, hwf⟩, hloads'⟩ := List.forall_mem_cons.mp hloads
    have hsplit : s.engine.loaded (i :: loads) = (s.engine.loaded [i]).loaded loads := s.engine.loaded_append [i] loads
    rw [hsplit] at hfits ⊢
    have hstep : step s =
        .next (answered (s.withPending (loads.map sendOf ++ rest)) (s.engine.loaded [i]) .ok 0#64) :=
      (step_of_sendOf hwf hp).trans (exec_load hload hm (Memory.wf_of_loaded hfits))
    rw [List.length_cons, Nat.add_right_comm]
    refine (run_next _ hstep).trans ((ih hloads' ?mode ?fits rfl).trans ?record)
    case mode => exact hm
    case fits => exact hfits
    case record => simp [answered, List.replicate_succ]

/-- A coefficient in range is valid as it is stored, and so is any list of them (44_config_commands.md R176). -/
theorem cause_eq_none {e : Engine} {cs : List Int} (hcoef : e.coef = cs.map (BitVec.ofInt 32)) (hsome : 1 ≤ cs.length)
    (hrange : ∀ c ∈ cs, -131072 ≤ c ∧ c ≤ 131071) (hfull : e.tbl.length = 2048) : cause e = .none := by
  have hloaded : e.coef.length ≠ 0 := by
    rw [hcoef, List.length_map]
    omega
  have hvalid : ∀ c ∈ e.coef, -131072 ≤ c.toInt ∧ c.toInt ≤ 131071 := by
    rw [hcoef, List.forall_mem_map]
    intro c hc
    obtain ⟨hlow, hhigh⟩ := hrange c hc
    rw [toInt_ofInt_32 (by omega) (by omega)]
    exact ⟨hlow, hhigh⟩
  have hnone : e.coef.any (fun c => decide (c.toInt < -131072) || decide (131071 < c.toInt)) = false := by
    simpa using hvalid
  simp [cause, hloaded, hnone, hfull]

/-- An `INIT` that is sent in `UNCONF` with a valid configuration (44_config_commands.md R175; 10_state.md R46). -/
theorem step_init_of_valid {s : State} {det : Detector} {rest : List HostInput}
    (hp : s.pending = sendOf (.init det) :: rest) (hm : s.engine.mode = .unconf) (hc : s.engine.cfgerr = .none)
    (hvalid : cause s.engine = .none) :
    step s = .next (answered (s.withPending rest) (freshLoop det s.engine.coef s.engine.tbl) .ok 0#64) := by
  rw [step_of_sendOf trivial hp, ← start_eq_freshLoop hc]
  exact execInit_of_valid (s := s.withPending rest) hm ((validate_eq_cause _).trans hvalid) det

/-- Settles O38: the reset empties the stores, the loads fill them (`run_loads`), and `INIT` finds them valid. -/
theorem bringUpConfiguresTheEngine : Obligations.BringUpConfiguresTheEngine := by
  intro s loads det rest hloads hsome hthree hrange hfull
  have hcoef : (Engine.reset.loaded loads).coef = (coefficientsOf loads).map (BitVec.ofInt 32) := List.nil_append _
  have htbl : (Engine.reset.loaded loads).tbl = (entriesOf loads).map (BitVec.ofInt 16) := List.nil_append _
  have hlength : (Engine.reset.loaded loads).tbl.length = 2048 := by rw [htbl, List.length_map, hfull]
  have hfits : Memory.wf (Engine.reset.loaded loads) := ⟨by rw [hcoef, List.length_map]; exact hthree, hlength.le⟩
  have hvalid : cause (Engine.reset.loaded loads) = .none := cause_eq_none hcoef hsome hrange hlength
  have hpending : (loads ++ [Instr.init det]).map sendOf ++ rest = loads.map sendOf ++ sendOf (.init det) :: rest := by
    simp
  rw [run_next (loads.length + 1) (step_of_hardwareReset rfl), run_loads 1 hloads rfl hfits hpending,
    run_next 0 (step_init_of_valid rfl rfl rfl hvalid), List.replicate_succ', ← List.append_assoc, ← hcoef, ← htbl]
  rfl

end Sys2Proof.Machine
end
